-- ==== Sys2Proof/Word.lean ====
section
/-!
DEFINITION. The word types and their plainest arithmetic (spec/00_scope.md R9): every bit pattern is a `BitVec`.
-/

namespace Sys2Proof

/-- A byte of memory (20_memory.md R60). -/
abbrev Byte := BitVec 8

/-- A 32-bit instruction word (30_encoding.md R90). -/
abbrev Word := BitVec 32

/-- The container of an x register, of the pc and of an address: XLEN is 32 or 64 (00_scope.md R5), and an RV32
value stands in it zero-extended. -/
abbrev XWord := BitVec 64

/-- The container of an f register: FLEN is 32, 64 or 128 (10_state.md R24), and a narrower register stands in it
zero-extended. -/
abbrev FWord := BitVec 128

/-- A register number, as a 5-bit field gives it (30_encoding.md R91). -/
abbrev Reg := BitVec 5

/-- The five accrued flags, NV DZ OF UF NX from bit 4 down to bit 0 (10_state.md R29). -/
abbrev FlagSet := BitVec 5

end Sys2Proof
end

