-- ==== Sys2Proof/Machine/Formats.lean ====
section
/-!
DEFINITION. The five floating-point formats: their parameters, the fields, the classes and the values of their
patterns (40_fp_common.md R130 to R136).
-/

namespace Sys2Proof.Machine

/-- The formats of R130. -/
inductive Fmt
  | h | bf16 | s | d | q
deriving DecidableEq, Repr

/-- The width w of a pattern (R130). -/
@[reducible] def Fmt.width : Fmt → Nat
  | .h => 16
  | .bf16 => 16
  | .s => 32
  | .d => 64
  | .q => 128

/-- The number e of biased-exponent bits (R130). -/
def Fmt.expBits : Fmt → Nat
  | .h => 5
  | .bf16 => 8
  | .s => 8
  | .d => 11
  | .q => 15

/-- The number m of trailing-significand bits (R130); the precision p is m + 1. -/
def Fmt.fracBits : Fmt → Nat
  | .h => 10
  | .bf16 => 7
  | .s => 23
  | .d => 52
  | .q => 112

/-- bias = 2^(e-1) - 1 (R130). -/
def Fmt.bias (fmt : Fmt) : Int := 2 ^ (fmt.expBits - 1) - 1

/-- emax = bias (R130). -/
def Fmt.emax (fmt : Fmt) : Int := fmt.bias

/-- emin = 1 - bias (R130). -/
def Fmt.emin (fmt : Fmt) : Int := 1 - fmt.bias

/-- A pattern of a format. -/
abbrev Bits (fmt : Fmt) := BitVec fmt.width

/-! ## The fields of a pattern -/

/-- The sign bit; true is negative. -/
def signOf {fmt : Fmt} (v : Bits fmt) : Bool := v.msb

/-- The biased exponent E. -/
def expOf {fmt : Fmt} (v : Bits fmt) : Nat := v.toNat / 2 ^ fmt.fracBits % 2 ^ fmt.expBits

/-- The trailing significand T. -/
def fracOf {fmt : Fmt} (v : Bits fmt) : Nat := v.toNat % 2 ^ fmt.fracBits

/-- The biased exponent of infinities and NaNs, 2^e - 1 (R131). -/
def Fmt.expMax (fmt : Fmt) : Nat := 2 ^ fmt.expBits - 1

/-- The pattern with a given sign whose other bits, read as a number, are `mag`. -/
def pack (fmt : Fmt) (neg : Bool) (mag : Nat) : Bits fmt :=
  BitVec.ofNat fmt.width (neg.toNat * 2 ^ (fmt.width - 1) + mag)

/-- The bits below the sign of an infinity: E all ones, T zero (R131). -/
def Fmt.infMag (fmt : Fmt) : Nat := fmt.expMax * 2 ^ fmt.fracBits

/-- The zero of a sign. -/
def zeroOf (fmt : Fmt) (neg : Bool) : Bits fmt := pack fmt neg 0

/-- The infinity of a sign. -/
def infOf (fmt : Fmt) (neg : Bool) : Bits fmt := pack fmt neg fmt.infMag

/-- The largest finite number of a sign: E = 2^e - 2, T all ones (R131). -/
def maxFiniteOf (fmt : Fmt) (neg : Bool) : Bits fmt := pack fmt neg (fmt.infMag - 1)

/-- The canonical NaN: positive, E all ones, the quiet bit the one significand bit set (R133). -/
def cnan (fmt : Fmt) : Bits fmt := pack fmt false (fmt.infMag + 2 ^ (fmt.fracBits - 1))

/-! ## Classes (R131, R132, R135) -/

/-- Any NaN. -/
def isNaN {fmt : Fmt} (v : Bits fmt) : Bool := expOf v == fmt.expMax && fracOf v != 0

/-- A quiet NaN: T's top bit is 1 (R135). -/
def isQNaN {fmt : Fmt} (v : Bits fmt) : Bool := isNaN v && decide (2 ^ (fmt.fracBits - 1) ≤ fracOf v)

/-- A signaling NaN: T's top bit is 0 (R135). -/
def isSNaN {fmt : Fmt} (v : Bits fmt) : Bool := isNaN v && decide (fracOf v < 2 ^ (fmt.fracBits - 1))

/-- Either infinity. -/
def isInf {fmt : Fmt} (v : Bits fmt) : Bool := expOf v == fmt.expMax && fracOf v == 0

/-- Either zero. -/
def isZero {fmt : Fmt} (v : Bits fmt) : Bool := expOf v == 0 && fracOf v == 0

/-- A subnormal number. -/
def isSubnormal {fmt : Fmt} (v : Bits fmt) : Bool := expOf v == 0 && fracOf v != 0

/-- The ten classes of R132, in the order of the FCLASS mask bits (R160). -/
inductive FpClass
  | negInf | negNormal | negSubnormal | negZero | posZero | posSubnormal | posNormal | posInf | sNaN | qNaN
deriving DecidableEq, Repr

/-- `class(fmt, v)` (R132). -/
def classOf {fmt : Fmt} (v : Bits fmt) : FpClass :=
  if isSNaN v then .sNaN
  else if isNaN v then .qNaN
  else if isInf v then (if signOf v then .negInf else .posInf)
  else if isZero v then (if signOf v then .negZero else .posZero)
  else if isSubnormal v then (if signOf v then .negSubnormal else .posSubnormal)
  else if signOf v then .negNormal
  else .posNormal

/-! ## Values -/

/-- The exact number `num * 2^exp`. -/
structure Dyad where
  num : Int
  exp : Int
deriving DecidableEq, Repr

/-- The integer significand of a finite pattern: T, with the hidden bit when the pattern is normal (R131). -/
def sigOf {fmt : Fmt} (v : Bits fmt) : Nat :=
  if expOf v = 0 then fracOf v else 2 ^ fmt.fracBits + fracOf v

/-- The exponent that goes with `sigOf`: a finite pattern's magnitude is `sigOf v * 2 ^ unitOf v` (R131). -/
def unitOf {fmt : Fmt} (v : Bits fmt) : Int := (max (expOf v) 1 : Nat) - fmt.bias - fmt.fracBits

/-- The value of a finite pattern (R131). -/
def valueOf {fmt : Fmt} (v : Bits fmt) : Dyad :=
  ⟨if signOf v then -(sigOf v : Int) else sigOf v, unitOf v⟩

/-- The numerator of a dyad over the unit `2^e`, for an `e` not above its own exponent. -/
def Dyad.over (a : Dyad) (e : Int) : Int := a.num * 2 ^ (a.exp - e).toNat

/-- The exact sum. -/
def Dyad.add (a b : Dyad) : Dyad :=
  let e := min a.exp b.exp
  ⟨a.over e + b.over e, e⟩

/-- The exact product. -/
def Dyad.mul (a b : Dyad) : Dyad := ⟨a.num * b.num, a.exp + b.exp⟩

/-- The negation. -/
def Dyad.neg (a : Dyad) : Dyad := ⟨-a.num, a.exp⟩

/-- The negation when a condition holds. -/
def Dyad.negIf (c : Bool) (a : Dyad) : Dyad := if c then a.neg else a

/-- Comparison of the two numbers. -/
def Dyad.cmp (a b : Dyad) : Ordering :=
  let e := min a.exp b.exp
  compare (a.over e) (b.over e)

end Sys2Proof.Machine
end

