-- ==== Sys2Proof/Machine/Flags.lean ====
section
/-!
DEFINITION. The accrued exception flags and the conditions that raise them (10_state.md R29, R30; 40_fp_common.md
R147 to R149).
-/

namespace Sys2Proof.Machine

/-- Invalid operation, bit 4 (R29). -/
def NV : FlagSet := 0b10000#5

/-- Divide by zero, bit 3 (R29). -/
def DZ : FlagSet := 0b01000#5

/-- Overflow, bit 2 (R29). -/
def OF : FlagSet := 0b00100#5

/-- Underflow, bit 1 (R29). -/
def UF : FlagSet := 0b00010#5

/-- Inexact, bit 0 (R29). -/
def NX : FlagSet := 0b00001#5

/-- No flag. -/
def noFlags : FlagSet := 0#5

/-- A flag set when a condition holds. -/
def flagIf (c : Bool) (fl : FlagSet) : FlagSet := if c then fl else noFlags

/-- The flags of an overflow (R145). -/
def overflowFlags : FlagSet := OF ||| NX

/-- The flags of a rounding that does not overflow: NX when inexact, and UF when it is tiny as well (R145, R146). -/
def roundingFlags (inexact tiny : Bool) : FlagSet :=
  flagIf inexact NX ||| flagIf (inexact && tiny) UF

/-- NV when one of two operands is a signaling NaN (R149, R156, R158, R159). -/
def signalingFlags {fmt : Fmt} (a b : Bits fmt) : FlagSet := flagIf (isSNaN a || isSNaN b) NV

end Sys2Proof.Machine
end

