-- ==== Sys2Proof/Machine/Rounding.lean ====
section
/-!
DEFINITION. Rounding modes, exact positive reals, and the rounding of a real to a format or to an integer
(40_fp_common.md R143 to R146). Every function is structurally recursive and computes on numerals.
-/

namespace Sys2Proof.Machine

/-- The five rounding modes (R143, R144). -/
inductive Mode
  | rne | rtz | rdn | rup | rmm
deriving DecidableEq, Repr

/-! ## Integer square root -/

/-- Digit by digit: `r` plus the bits below `2^k` that keep the square at most `n`. -/
def isqrtGo (n : Nat) : Nat → Nat → Nat
  | 0, r => r
  | k + 1, r => if (r + 2 ^ k) * (r + 2 ^ k) ≤ n then isqrtGo n k (r + 2 ^ k) else isqrtGo n k r

/-- The largest natural number whose square is at most `n`. -/
def isqrt (n : Nat) : Nat := isqrtGo n (Nat.log2 n / 2 + 1) 0

/-! ## Exact magnitudes -/

/-- A nonnegative real, exactly: a quotient `num / den * 2^exp` (den nonzero), or a root `√rad * 2^exp`. -/
inductive Magnitude
  | ratio (num den : Nat) (exp : Int)
  | root (rad : Nat) (exp : Int)
deriving DecidableEq, Repr

/-- Where the fractional part of a number stands: zero, below one half, one half, above one half. -/
inductive Rest
  | exact | below | half | above
deriving DecidableEq, Repr

/-- A number cut at the units: its floor, and its fractional part's place. -/
structure Cut where
  floor : Nat
  rest  : Rest
deriving DecidableEq, Repr

/-- The place of a nonzero fractional part, from the comparison of twice the number with `2 * floor + 1`. -/
def restOf : Ordering → Rest
  | .lt => .below
  | .eq => .half
  | .gt => .above

/-- `num / den`, cut. -/
def cutRatio (num den : Nat) : Cut :=
  let k := num / den
  ⟨k, if k * den = num then .exact else restOf (compare (2 * num) ((2 * k + 1) * den))⟩

/-- `√(num / den)`, cut. -/
def cutRoot (num den : Nat) : Cut :=
  let k := isqrt (num / den)
  ⟨k, if k * k * den = num then .exact else restOf (compare (4 * num) ((2 * k + 1) * (2 * k + 1) * den))⟩

/-- `x / 2^q`, cut. -/
def Magnitude.cut : Magnitude → Int → Cut
  | .ratio num den e, q => cutRatio (num * 2 ^ (e - q).toNat) (den * 2 ^ (q - e).toNat)
  | .root rad e, q => cutRoot (rad * 4 ^ (e - q).toNat) (4 ^ (q - e).toNat)

/-- floor(log2 x) of a positive x. -/
def Magnitude.ilog2 : Magnitude → Int
  | .ratio num den e =>
    let l : Int := (Nat.log2 num : Int) - Nat.log2 den
    if num * 2 ^ (-l).toNat < den * 2 ^ l.toNat then l - 1 + e else l + e
  | .root rad e => (Nat.log2 rad / 2 : Nat) + e

/-! ## The choice between two neighbours -/

/-- Whether a number of a sign whose magnitude lies strictly between the candidates k and k + 1 goes to k + 1 (R144);
RDN and RUP are directions of the number, so of the magnitude they depend on the sign. -/
def goesUp (mode : Mode) (neg : Bool) (c : Cut) : Bool :=
  match c.rest, mode with
  | .exact, _ => false
  | _, .rtz => false
  | _, .rdn => neg
  | _, .rup => !neg
  | .below, .rne => false
  | .below, .rmm => false
  | .half, .rne => c.floor % 2 == 1
  | .half, .rmm => true
  | .above, .rne => true
  | .above, .rmm => true

/-- The candidate R144 chooses, as a multiple of the unit. -/
def Cut.rounded (c : Cut) (mode : Mode) (neg : Bool) : Nat := if goesUp mode neg c then c.floor + 1 else c.floor

/-- Whether the chosen candidate differs from the number. -/
def Cut.inexact (c : Cut) : Bool := c.rest != .exact

/-! ## Rounding to a format (R145, R146) -/

/-- The exponent q of the candidates' unit for a number whose floor(log2) is `l`: p significant bits from 2^emin up, a
fixed spacing below (R145). -/
def quantum (fmt : Fmt) (l : Int) : Int := max l fmt.emin - fmt.fracBits

/-- What an overflow delivers: an infinity or the largest finite number (R145). -/
def overflowResult (fmt : Fmt) (mode : Mode) (neg : Bool) : Bits fmt :=
  match mode with
  | .rne => infOf fmt neg
  | .rmm => infOf fmt neg
  | .rtz => maxFiniteOf fmt neg
  | .rup => if neg then maxFiniteOf fmt neg else infOf fmt neg
  | .rdn => if neg then infOf fmt neg else maxFiniteOf fmt neg

/-- The bits below the sign that encode `k * 2^q`, for the unit of a finite result: a `k` below 2^m is the subnormal
T = k, and from 2^m on the hidden bit of `k` adds one to the biased exponent (R131). -/
def encodeMag (fmt : Fmt) (k : Nat) (q : Int) : Nat :=
  (q - (fmt.emin - fmt.fracBits)).toNat * 2 ^ fmt.fracBits + k

/-- Tininess, after rounding: p significant bits at an unbounded exponent range stay below 2^emin (R146). -/
def isTiny (fmt : Fmt) (mode : Mode) (neg : Bool) (x : Magnitude) : Bool :=
  let q := x.ilog2 - fmt.fracBits
  decide ((x.cut q).rounded mode neg < 2 ^ (fmt.emin - q).toNat)

/-- `round(fmt, x, mode)` for a nonzero real given as a sign and a positive magnitude (R145). -/
def roundReal (fmt : Fmt) (mode : Mode) (neg : Bool) (x : Magnitude) : Bits fmt × FlagSet :=
  let q := quantum fmt x.ilog2
  let c := x.cut q
  let k := c.rounded mode neg
  if 2 ^ (fmt.emax + 1 - q).toNat ≤ k then (overflowResult fmt mode neg, overflowFlags)
  else (pack fmt neg (encodeMag fmt k q), roundingFlags c.inexact (isTiny fmt mode neg x))

/-- `round(fmt, x, mode)` for a nonzero dyad. -/
def roundDyad (fmt : Fmt) (mode : Mode) (x : Dyad) : Bits fmt × FlagSet :=
  roundReal fmt mode (decide (x.num < 0)) (.ratio x.num.natAbs 1 x.exp)

/-! ## Rounding to an integer (R144 with the integers as candidates) -/

/-- The magnitude of a dyad, cut at the units. -/
def Dyad.cut (x : Dyad) : Cut := (Magnitude.ratio x.num.natAbs 1 x.exp).cut 0

/-- `roundToInteger(x, mode)`. -/
def roundToInt (mode : Mode) (x : Dyad) : Int :=
  let k := x.cut.rounded mode (decide (x.num < 0))
  if x.num < 0 then -(k : Int) else k

end Sys2Proof.Machine
end

