-- ==== Sys2Proof/Machine/Arith.lean ====
section
/-!
DEFINITION. The arithmetic operations: one function per operation of 40_fp_common.md sections 6 to 8 (R149 to R160).
Each takes operands already unboxed and a resolved mode, and gives the result and the flags it raises.
-/

namespace Sys2Proof.Machine

/-- A result of a format and the flags raised with it (R147). -/
abbrev Result (fmt : Fmt) := Bits fmt × FlagSet

/-- `nanResult` of two operands: the canonical NaN, NV when one is signaling (R149). -/
def nanResult2 (fmt : Fmt) (a b : Bits fmt) : Result fmt := (cnan fmt, flagIf (isSNaN a || isSNaN b) NV)

/-- The result of an invalid operation (R148). -/
def invalidResult (fmt : Fmt) : Result fmt := (cnan fmt, NV)

/-- The sign of an exact zero sum of two unlike-signed numbers: negative under RDN alone (R150). -/
def cancelledZero (fmt : Fmt) (mode : Mode) : Bits fmt := zeroOf fmt (mode == .rdn)

/-- The pattern with its sign bit flipped (R150). -/
def negate {fmt : Fmt} (v : Bits fmt) : Bits fmt := v ^^^ BitVec.ofNat fmt.width (2 ^ (fmt.width - 1))

/-- Addition (R150). -/
def fadd (fmt : Fmt) (mode : Mode) (a b : Bits fmt) : Result fmt :=
  if isNaN a || isNaN b then nanResult2 fmt a b
  else if isInf a && isInf b then (if signOf a == signOf b then (a, noFlags) else invalidResult fmt)
  else if isInf a then (a, noFlags)
  else if isInf b then (b, noFlags)
  else
    let x := (valueOf a).add (valueOf b)
    if x.num = 0 then
      (if signOf a == signOf b then zeroOf fmt (signOf a) else cancelledZero fmt mode, noFlags)
    else roundDyad fmt mode x

/-- Subtraction: the sum with the negated second operand, the NaN case looking at the operand itself (R150). -/
def fsub (fmt : Fmt) (mode : Mode) (a b : Bits fmt) : Result fmt :=
  if isNaN a || isNaN b then nanResult2 fmt a b else fadd fmt mode a (negate b)

/-- Multiplication (R151). -/
def fmul (fmt : Fmt) (mode : Mode) (a b : Bits fmt) : Result fmt :=
  let s := signOf a ^^ signOf b
  if isNaN a || isNaN b then nanResult2 fmt a b
  else if (isInf a && isZero b) || (isZero a && isInf b) then invalidResult fmt
  else if isInf a || isInf b then (infOf fmt s, noFlags)
  else if isZero a || isZero b then (zeroOf fmt s, noFlags)
  else roundDyad fmt mode ((valueOf a).mul (valueOf b))

/-- Division (R152). -/
def fdiv (fmt : Fmt) (mode : Mode) (a b : Bits fmt) : Result fmt :=
  let s := signOf a ^^ signOf b
  if isNaN a || isNaN b then nanResult2 fmt a b
  else if isInf a then (if isInf b then invalidResult fmt else (infOf fmt s, noFlags))
  else if isInf b then (zeroOf fmt s, noFlags)
  else if isZero b then (if isZero a then invalidResult fmt else (infOf fmt s, DZ))
  else if isZero a then (zeroOf fmt s, noFlags)
  else roundReal fmt mode s (.ratio (sigOf a) (sigOf b) (unitOf a - unitOf b))

/-- The exact square root of `sig * 2^unit`: an odd exponent lends one factor 2 to the radicand. -/
def rootOf (sig : Nat) (unit : Int) : Magnitude :=
  if unit % 2 = 0 then .root sig (unit / 2) else .root (2 * sig) ((unit - 1) / 2)

/-- Square root (R153). -/
def fsqrt (fmt : Fmt) (mode : Mode) (a : Bits fmt) : Result fmt :=
  if isNaN a then (cnan fmt, flagIf (isSNaN a) NV)
  else if isZero a then (a, noFlags)
  else if signOf a then invalidResult fmt
  else if isInf a then (a, noFlags)
  else roundReal fmt mode false (rootOf (sigOf a) (unitOf a))

/-- Fused multiply-add: the product negated when `negp`, the addend when `negc`, one rounding (R154). -/
def ffma (fmt : Fmt) (negp negc : Bool) (mode : Mode) (a b c : Bits fmt) : Result fmt :=
  let invalidProduct := (isInf a && isZero b) || (isZero a && isInf b)
  let sp := (signOf a ^^ signOf b) ^^ negp
  let sc := signOf c ^^ negc
  if isNaN a || isNaN b || isNaN c then
    (cnan fmt, flagIf (isSNaN a || isSNaN b || isSNaN c || invalidProduct) NV)
  else if invalidProduct then invalidResult fmt
  else if isInf a || isInf b then (if isInf c && sc != sp then invalidResult fmt else (infOf fmt sp, noFlags))
  else if isInf c then (infOf fmt sc, noFlags)
  else
    let p := ((valueOf a).mul (valueOf b)).negIf negp
    let x := p.add ((valueOf c).negIf negc)
    if x.num = 0 then (if p.num = 0 && sp == sc then zeroOf fmt sp else cancelledZero fmt mode, noFlags)
    else roundDyad fmt mode x

/-! ## Sign injection, minimum and maximum -/

/-- The three sign injections (R155). -/
inductive SignKind
  | j | jn | jx
deriving DecidableEq, Repr

/-- The sign a sign injection gives (R155). -/
def SignKind.sign : SignKind → Bool → Bool → Bool
  | .j, _, sb => sb
  | .jn, _, sb => !sb
  | .jx, sa, sb => sa ^^ sb

/-- Sign injection (R155). -/
def fsgnj (fmt : Fmt) (kind : SignKind) (a b : Bits fmt) : Result fmt :=
  (pack fmt (kind.sign (signOf a) (signOf b)) (a.toNat % 2 ^ (fmt.width - 1)), noFlags)

/-- A pattern's place in the order -inf < negative finite < -0 < +0 < positive finite < +inf of R156. -/
def orderKey {fmt : Fmt} (v : Bits fmt) : Int :=
  let mag : Int := (v.toNat % 2 ^ (fmt.width - 1) : Nat)
  if signOf v then -mag - 1 else mag

/-- The lesser or the greater of two patterns that are no NaN, in the order of R156. -/
def pick {fmt : Fmt} (isMax : Bool) (a b : Bits fmt) : Bits fmt :=
  if isMax then (if orderKey a < orderKey b then b else a) else (if orderKey b < orderKey a then b else a)

/-- FMIN and FMAX (R156). -/
def fminmax (fmt : Fmt) (isMax : Bool) (a b : Bits fmt) : Result fmt :=
  let fl := signalingFlags a b
  if isNaN a && isNaN b then (cnan fmt, fl)
  else if isNaN a then (b, fl)
  else if isNaN b then (a, fl)
  else (pick isMax a b, fl)

/-- FMINM and FMAXM (R157). -/
def fminmaxm (fmt : Fmt) (isMax : Bool) (a b : Bits fmt) : Result fmt :=
  if isNaN a || isNaN b then (cnan fmt, signalingFlags a b) else (pick isMax a b, signalingFlags a b)

/-! ## Compares and classification -/

/-- The five compares (R158, R159). -/
inductive CmpOp
  | eq | lt | le | ltq | leq
deriving DecidableEq, Repr

/-- -1, 0 or 1: below, among or above the finite numbers. -/
def infRank {fmt : Fmt} (v : Bits fmt) : Int := if isInf v then (if signOf v then -1 else 1) else 0

/-- Comparison by value of two patterns that are no NaN: +0 = -0, -inf < every finite < +inf (R158). -/
def cmpValue {fmt : Fmt} (a b : Bits fmt) : Ordering :=
  if isInf a || isInf b then compare (infRank a) (infRank b) else (valueOf a).cmp (valueOf b)

/-- The condition a compare tests (R158, R159). -/
def CmpOp.test : CmpOp → Ordering → Bool
  | .eq, o => o == .eq
  | .lt, o => o == .lt
  | .ltq, o => o == .lt
  | .le, o => o != .gt
  | .leq, o => o != .gt

/-- Whether a quiet NaN is enough to raise NV: FLT and FLE are signaling compares (R158, R159). -/
def CmpOp.signaling : CmpOp → Bool
  | .lt => true
  | .le => true
  | .eq => false
  | .ltq => false
  | .leq => false

/-- Compares (R158, R159): the bit, and the flags. -/
def fcmp (fmt : Fmt) (op : CmpOp) (a b : Bits fmt) : Bool × FlagSet :=
  if isNaN a || isNaN b then (false, if op.signaling then NV else signalingFlags a b)
  else (op.test (cmpValue a b), noFlags)

/-- The mask bit of a class (R160). -/
def FpClass.maskBit : FpClass → Nat
  | .negInf => 0
  | .negNormal => 1
  | .negSubnormal => 2
  | .negZero => 3
  | .posZero => 4
  | .posSubnormal => 5
  | .posNormal => 6
  | .posInf => 7
  | .sNaN => 8
  | .qNaN => 9

/-- FCLASS's mask (R160). -/
def fclass (fmt : Fmt) (a : Bits fmt) : BitVec 10 := 1#10 <<< (classOf a).maskBit

end Sys2Proof.Machine
end

