-- ==== Sys2Proof/Machine/Convert.lean ====
section
/-!
DEFINITION. The conversions, the rounding to an integral value and the FLI constants (40_fp_common.md sections 9 and
10: R161 to R167).
-/

namespace Sys2Proof.Machine

/-- The integer formats of the conversions: W, WU, L, LU (R161). -/
inductive IntFmt
  | w | wu | l | lu
deriving DecidableEq, Repr

/-- The width N of an integer format (R161). -/
@[reducible] def IntFmt.width : IntFmt → Nat
  | .w => 32
  | .wu => 32
  | .l => 64
  | .lu => 64

/-- Whether an integer format is signed. -/
def IntFmt.signed : IntFmt → Bool
  | .w => true
  | .l => true
  | .wu => false
  | .lu => false

/-- The least integer of the format (R161). -/
def IntFmt.lo (t : IntFmt) : Int := if t.signed then -2 ^ (t.width - 1) else 0

/-- The greatest integer of the format (R161). -/
def IntFmt.hi (t : IntFmt) : Int := if t.signed then 2 ^ (t.width - 1) - 1 else 2 ^ t.width - 1

/-- The integer a register's bits stand for in the format (R162). -/
def IntFmt.read (t : IntFmt) (v : BitVec t.width) : Int := if t.signed then v.toInt else v.toNat

/-- Floating point to integer: the integer, clipped into the format, and the flags (R161). -/
def fcvtInt (fmt : Fmt) (t : IntFmt) (mode : Mode) (a : Bits fmt) : Int × FlagSet :=
  if isNaN a then (t.hi, NV)
  else if isInf a then (if signOf a then t.lo else t.hi, NV)
  else
    let n := roundToInt mode (valueOf a)
    if n < t.lo then (t.lo, NV)
    else if t.hi < n then (t.hi, NV)
    else (n, flagIf (valueOf a).cut.inexact NX)

/-- Integer to floating point (R162). -/
def fcvtFp (fmt : Fmt) (mode : Mode) (n : Int) : Result fmt :=
  if n = 0 then (zeroOf fmt false, noFlags) else roundDyad fmt mode ⟨n, 0⟩

/-- Floating point to floating point (R163). -/
def fcvtFf (dst src : Fmt) (mode : Mode) (a : Bits src) : Result dst :=
  if isNaN a then (cnan dst, flagIf (isSNaN a) NV)
  else if isInf a then (infOf dst (signOf a), noFlags)
  else if isZero a then (zeroOf dst (signOf a), noFlags)
  else roundDyad dst mode (valueOf a)

/-- The encoding of an integer that the format represents, with the sign of an operand: a zero keeps that sign
(R164). -/
def encodeInt (fmt : Fmt) (neg : Bool) (n : Int) : Bits fmt :=
  if n = 0 then zeroOf fmt neg else (roundReal fmt .rtz neg (.ratio n.natAbs 1 0)).1

/-- FROUND, and FROUNDNX when `exact` (R164). -/
def fround (fmt : Fmt) (exact : Bool) (mode : Mode) (a : Bits fmt) : Result fmt :=
  if isNaN a then (cnan fmt, flagIf (isSNaN a) NV)
  else if isInf a || isZero a then (a, noFlags)
  else (encodeInt fmt (signOf a) (roundToInt mode (valueOf a)), flagIf (exact && (valueOf a).cut.inexact) NX)

/-- FCVTMOD.W.D: the truncated integer modulo 2^32, with the flags of FCVT.W.D under RTZ (R165). -/
def fcvtmod (a : Bits .d) : BitVec 32 × FlagSet :=
  let fl := (fcvtInt .d .w .rtz a).2
  if isNaN a || isInf a then (0#32, fl) else (BitVec.ofInt 32 (roundToInt .rtz (valueOf a)), fl)

/-- The FLI constants, entry k at place k (R166). BF16 has no FLI. -/
def fliTable : Fmt → List Nat
  | .h =>
    [ 0xbc00, 0x0400, 0x0100, 0x0200, 0x1c00, 0x2000, 0x2c00, 0x3000,
      0x3400, 0x3500, 0x3600, 0x3700, 0x3800, 0x3900, 0x3a00, 0x3b00,
      0x3c00, 0x3d00, 0x3e00, 0x3f00, 0x4000, 0x4100, 0x4200, 0x4400,
      0x4800, 0x4c00, 0x5800, 0x5c00, 0x7800, 0x7c00, 0x7c00, 0x7e00 ]
  | .s =>
    [ 0xbf800000, 0x00800000, 0x37800000, 0x38000000, 0x3b800000, 0x3c000000, 0x3d800000, 0x3e000000,
      0x3e800000, 0x3ea00000, 0x3ec00000, 0x3ee00000, 0x3f000000, 0x3f200000, 0x3f400000, 0x3f600000,
      0x3f800000, 0x3fa00000, 0x3fc00000, 0x3fe00000, 0x40000000, 0x40200000, 0x40400000, 0x40800000,
      0x41000000, 0x41800000, 0x43000000, 0x43800000, 0x47000000, 0x47800000, 0x7f800000, 0x7fc00000 ]
  | .d =>
    [ 0xbff0000000000000, 0x0010000000000000, 0x3ef0000000000000, 0x3f00000000000000,
      0x3f70000000000000, 0x3f80000000000000, 0x3fb0000000000000, 0x3fc0000000000000,
      0x3fd0000000000000, 0x3fd4000000000000, 0x3fd8000000000000, 0x3fdc000000000000,
      0x3fe0000000000000, 0x3fe4000000000000, 0x3fe8000000000000, 0x3fec000000000000,
      0x3ff0000000000000, 0x3ff4000000000000, 0x3ff8000000000000, 0x3ffc000000000000,
      0x4000000000000000, 0x4004000000000000, 0x4008000000000000, 0x4010000000000000,
      0x4020000000000000, 0x4030000000000000, 0x4060000000000000, 0x4070000000000000,
      0x40e0000000000000, 0x40f0000000000000, 0x7ff0000000000000, 0x7ff8000000000000 ]
  | .q =>
    [ 0xbfff0000000000000000000000000000, 0x00010000000000000000000000000000,
      0x3fef0000000000000000000000000000, 0x3ff00000000000000000000000000000,
      0x3ff70000000000000000000000000000, 0x3ff80000000000000000000000000000,
      0x3ffb0000000000000000000000000000, 0x3ffc0000000000000000000000000000,
      0x3ffd0000000000000000000000000000, 0x3ffd4000000000000000000000000000,
      0x3ffd8000000000000000000000000000, 0x3ffdc000000000000000000000000000,
      0x3ffe0000000000000000000000000000, 0x3ffe4000000000000000000000000000,
      0x3ffe8000000000000000000000000000, 0x3ffec000000000000000000000000000,
      0x3fff0000000000000000000000000000, 0x3fff4000000000000000000000000000,
      0x3fff8000000000000000000000000000, 0x3fffc000000000000000000000000000,
      0x40000000000000000000000000000000, 0x40004000000000000000000000000000,
      0x40008000000000000000000000000000, 0x40010000000000000000000000000000,
      0x40020000000000000000000000000000, 0x40030000000000000000000000000000,
      0x40060000000000000000000000000000, 0x40070000000000000000000000000000,
      0x400e0000000000000000000000000000, 0x400f0000000000000000000000000000,
      0x7fff0000000000000000000000000000, 0x7fff8000000000000000000000000000 ]
  | .bf16 => []

/-- `fli(fmt, k)` (R166). -/
def fli (fmt : Fmt) (k : BitVec 5) : Bits fmt := BitVec.ofNat fmt.width ((fliTable fmt).getD k.toNat 0)

end Sys2Proof.Machine
end

