-- ==== Sys2Proof/Syntax.lean ====
section
/-!
DEFINITION. The instructions: one constructor per row of spec/opcode_table.json, its fields being the row's operand
fields (30_encoding.md R91 to R96). `rm` is the raw 3-bit rounding-mode field (R99), `imm` the 12-bit byte offset of
a load or a store (R101, R102), `csr` the CSR number, `uimm` the 5-bit immediate of a CSR access (R96), `k` the
constant index that FLI carries in its `rs1` field (40_fp_common.md R166). Which register file a register field names
depends on the instruction and, under the Zfinx family, on the configuration.
-/

namespace Sys2Proof

inductive Instr
  -- F, single precision (41_f_single.md)
  | flw (rd rs1 : Reg) (imm : BitVec 12)  -- FLW, R201
  | fsw (rs2 rs1 : Reg) (imm : BitVec 12)  -- FSW, R202
  | faddS (rd rs1 rs2 : Reg) (rm : BitVec 3)  -- FADD.S, R203
  | fsubS (rd rs1 rs2 : Reg) (rm : BitVec 3)  -- FSUB.S, R204
  | fmulS (rd rs1 rs2 : Reg) (rm : BitVec 3)  -- FMUL.S, R205
  | fdivS (rd rs1 rs2 : Reg) (rm : BitVec 3)  -- FDIV.S, R206
  | fsqrtS (rd rs1 : Reg) (rm : BitVec 3)  -- FSQRT.S, R207
  | fminS (rd rs1 rs2 : Reg)  -- FMIN.S, R208
  | fmaxS (rd rs1 rs2 : Reg)  -- FMAX.S, R209
  | fmaddS (rd rs1 rs2 rs3 : Reg) (rm : BitVec 3)  -- FMADD.S, R210
  | fmsubS (rd rs1 rs2 rs3 : Reg) (rm : BitVec 3)  -- FMSUB.S, R211
  | fnmsubS (rd rs1 rs2 rs3 : Reg) (rm : BitVec 3)  -- FNMSUB.S, R212
  | fnmaddS (rd rs1 rs2 rs3 : Reg) (rm : BitVec 3)  -- FNMADD.S, R213
  | fcvtWS (rd rs1 : Reg) (rm : BitVec 3)  -- FCVT.W.S, R214
  | fcvtWuS (rd rs1 : Reg) (rm : BitVec 3)  -- FCVT.WU.S, R215
  | fcvtLS (rd rs1 : Reg) (rm : BitVec 3)  -- FCVT.L.S, R216
  | fcvtLuS (rd rs1 : Reg) (rm : BitVec 3)  -- FCVT.LU.S, R217
  | fcvtSW (rd rs1 : Reg) (rm : BitVec 3)  -- FCVT.S.W, R218
  | fcvtSWu (rd rs1 : Reg) (rm : BitVec 3)  -- FCVT.S.WU, R219
  | fcvtSL (rd rs1 : Reg) (rm : BitVec 3)  -- FCVT.S.L, R220
  | fcvtSLu (rd rs1 : Reg) (rm : BitVec 3)  -- FCVT.S.LU, R221
  | fsgnjS (rd rs1 rs2 : Reg)  -- FSGNJ.S, R222
  | fsgnjnS (rd rs1 rs2 : Reg)  -- FSGNJN.S, R223
  | fsgnjxS (rd rs1 rs2 : Reg)  -- FSGNJX.S, R224
  | fmvXW (rd rs1 : Reg)  -- FMV.X.W, R225
  | fmvWX (rd rs1 : Reg)  -- FMV.W.X, R226
  | feqS (rd rs1 rs2 : Reg)  -- FEQ.S, R227
  | fltS (rd rs1 rs2 : Reg)  -- FLT.S, R228
  | fleS (rd rs1 rs2 : Reg)  -- FLE.S, R229
  | fclassS (rd rs1 : Reg)  -- FCLASS.S, R230
  -- D, double precision (42_d_double.md)
  | fld (rd rs1 : Reg) (imm : BitVec 12)  -- FLD, R251
  | fsd (rs2 rs1 : Reg) (imm : BitVec 12)  -- FSD, R252
  | faddD (rd rs1 rs2 : Reg) (rm : BitVec 3)  -- FADD.D, R253
  | fsubD (rd rs1 rs2 : Reg) (rm : BitVec 3)  -- FSUB.D, R254
  | fmulD (rd rs1 rs2 : Reg) (rm : BitVec 3)  -- FMUL.D, R255
  | fdivD (rd rs1 rs2 : Reg) (rm : BitVec 3)  -- FDIV.D, R256
  | fsqrtD (rd rs1 : Reg) (rm : BitVec 3)  -- FSQRT.D, R257
  | fminD (rd rs1 rs2 : Reg)  -- FMIN.D, R258
  | fmaxD (rd rs1 rs2 : Reg)  -- FMAX.D, R259
  | fmaddD (rd rs1 rs2 rs3 : Reg) (rm : BitVec 3)  -- FMADD.D, R260
  | fmsubD (rd rs1 rs2 rs3 : Reg) (rm : BitVec 3)  -- FMSUB.D, R261
  | fnmsubD (rd rs1 rs2 rs3 : Reg) (rm : BitVec 3)  -- FNMSUB.D, R262
  | fnmaddD (rd rs1 rs2 rs3 : Reg) (rm : BitVec 3)  -- FNMADD.D, R263
  | fcvtWD (rd rs1 : Reg) (rm : BitVec 3)  -- FCVT.W.D, R264
  | fcvtWuD (rd rs1 : Reg) (rm : BitVec 3)  -- FCVT.WU.D, R265
  | fcvtLD (rd rs1 : Reg) (rm : BitVec 3)  -- FCVT.L.D, R266
  | fcvtLuD (rd rs1 : Reg) (rm : BitVec 3)  -- FCVT.LU.D, R267
  | fcvtDW (rd rs1 : Reg) (rm : BitVec 3)  -- FCVT.D.W, R268
  | fcvtDWu (rd rs1 : Reg) (rm : BitVec 3)  -- FCVT.D.WU, R269
  | fcvtDL (rd rs1 : Reg) (rm : BitVec 3)  -- FCVT.D.L, R270
  | fcvtDLu (rd rs1 : Reg) (rm : BitVec 3)  -- FCVT.D.LU, R271
  | fcvtSD (rd rs1 : Reg) (rm : BitVec 3)  -- FCVT.S.D, R272
  | fcvtDS (rd rs1 : Reg) (rm : BitVec 3)  -- FCVT.D.S, R273
  | fsgnjD (rd rs1 rs2 : Reg)  -- FSGNJ.D, R274
  | fsgnjnD (rd rs1 rs2 : Reg)  -- FSGNJN.D, R275
  | fsgnjxD (rd rs1 rs2 : Reg)  -- FSGNJX.D, R276
  | fmvXD (rd rs1 : Reg)  -- FMV.X.D, R277
  | fmvDX (rd rs1 : Reg)  -- FMV.D.X, R278
  | feqD (rd rs1 rs2 : Reg)  -- FEQ.D, R279
  | fltD (rd rs1 rs2 : Reg)  -- FLT.D, R280
  | fleD (rd rs1 rs2 : Reg)  -- FLE.D, R281
  | fclassD (rd rs1 : Reg)  -- FCLASS.D, R282
  -- Q, quad precision (43_q_quad.md)
  | flq (rd rs1 : Reg) (imm : BitVec 12)  -- FLQ, R301
  | fsq (rs2 rs1 : Reg) (imm : BitVec 12)  -- FSQ, R302
  | faddQ (rd rs1 rs2 : Reg) (rm : BitVec 3)  -- FADD.Q, R303
  | fsubQ (rd rs1 rs2 : Reg) (rm : BitVec 3)  -- FSUB.Q, R304
  | fmulQ (rd rs1 rs2 : Reg) (rm : BitVec 3)  -- FMUL.Q, R305
  | fdivQ (rd rs1 rs2 : Reg) (rm : BitVec 3)  -- FDIV.Q, R306
  | fsqrtQ (rd rs1 : Reg) (rm : BitVec 3)  -- FSQRT.Q, R307
  | fminQ (rd rs1 rs2 : Reg)  -- FMIN.Q, R308
  | fmaxQ (rd rs1 rs2 : Reg)  -- FMAX.Q, R309
  | fmaddQ (rd rs1 rs2 rs3 : Reg) (rm : BitVec 3)  -- FMADD.Q, R310
  | fmsubQ (rd rs1 rs2 rs3 : Reg) (rm : BitVec 3)  -- FMSUB.Q, R311
  | fnmsubQ (rd rs1 rs2 rs3 : Reg) (rm : BitVec 3)  -- FNMSUB.Q, R312
  | fnmaddQ (rd rs1 rs2 rs3 : Reg) (rm : BitVec 3)  -- FNMADD.Q, R313
  | fcvtWQ (rd rs1 : Reg) (rm : BitVec 3)  -- FCVT.W.Q, R314
  | fcvtWuQ (rd rs1 : Reg) (rm : BitVec 3)  -- FCVT.WU.Q, R315
  | fcvtLQ (rd rs1 : Reg) (rm : BitVec 3)  -- FCVT.L.Q, R316
  | fcvtLuQ (rd rs1 : Reg) (rm : BitVec 3)  -- FCVT.LU.Q, R317
  | fcvtQW (rd rs1 : Reg) (rm : BitVec 3)  -- FCVT.Q.W, R318
  | fcvtQWu (rd rs1 : Reg) (rm : BitVec 3)  -- FCVT.Q.WU, R319
  | fcvtQL (rd rs1 : Reg) (rm : BitVec 3)  -- FCVT.Q.L, R320
  | fcvtQLu (rd rs1 : Reg) (rm : BitVec 3)  -- FCVT.Q.LU, R321
  | fcvtSQ (rd rs1 : Reg) (rm : BitVec 3)  -- FCVT.S.Q, R322
  | fcvtQS (rd rs1 : Reg) (rm : BitVec 3)  -- FCVT.Q.S, R323
  | fcvtDQ (rd rs1 : Reg) (rm : BitVec 3)  -- FCVT.D.Q, R324
  | fcvtQD (rd rs1 : Reg) (rm : BitVec 3)  -- FCVT.Q.D, R325
  | fsgnjQ (rd rs1 rs2 : Reg)  -- FSGNJ.Q, R326
  | fsgnjnQ (rd rs1 rs2 : Reg)  -- FSGNJN.Q, R327
  | fsgnjxQ (rd rs1 rs2 : Reg)  -- FSGNJX.Q, R328
  | feqQ (rd rs1 rs2 : Reg)  -- FEQ.Q, R329
  | fltQ (rd rs1 rs2 : Reg)  -- FLT.Q, R330
  | fleQ (rd rs1 rs2 : Reg)  -- FLE.Q, R331
  | fclassQ (rd rs1 : Reg)  -- FCLASS.Q, R332
  -- Zfh and Zfhmin, half precision (44_zfh_half.md)
  | flh (rd rs1 : Reg) (imm : BitVec 12)  -- FLH, R351
  | fsh (rs2 rs1 : Reg) (imm : BitVec 12)  -- FSH, R352
  | faddH (rd rs1 rs2 : Reg) (rm : BitVec 3)  -- FADD.H, R353
  | fsubH (rd rs1 rs2 : Reg) (rm : BitVec 3)  -- FSUB.H, R354
  | fmulH (rd rs1 rs2 : Reg) (rm : BitVec 3)  -- FMUL.H, R355
  | fdivH (rd rs1 rs2 : Reg) (rm : BitVec 3)  -- FDIV.H, R356
  | fsqrtH (rd rs1 : Reg) (rm : BitVec 3)  -- FSQRT.H, R357
  | fminH (rd rs1 rs2 : Reg)  -- FMIN.H, R358
  | fmaxH (rd rs1 rs2 : Reg)  -- FMAX.H, R359
  | fmaddH (rd rs1 rs2 rs3 : Reg) (rm : BitVec 3)  -- FMADD.H, R360
  | fmsubH (rd rs1 rs2 rs3 : Reg) (rm : BitVec 3)  -- FMSUB.H, R361
  | fnmsubH (rd rs1 rs2 rs3 : Reg) (rm : BitVec 3)  -- FNMSUB.H, R362
  | fnmaddH (rd rs1 rs2 rs3 : Reg) (rm : BitVec 3)  -- FNMADD.H, R363
  | fcvtWH (rd rs1 : Reg) (rm : BitVec 3)  -- FCVT.W.H, R364
  | fcvtWuH (rd rs1 : Reg) (rm : BitVec 3)  -- FCVT.WU.H, R365
  | fcvtLH (rd rs1 : Reg) (rm : BitVec 3)  -- FCVT.L.H, R366
  | fcvtLuH (rd rs1 : Reg) (rm : BitVec 3)  -- FCVT.LU.H, R367
  | fcvtHW (rd rs1 : Reg) (rm : BitVec 3)  -- FCVT.H.W, R368
  | fcvtHWu (rd rs1 : Reg) (rm : BitVec 3)  -- FCVT.H.WU, R369
  | fcvtHL (rd rs1 : Reg) (rm : BitVec 3)  -- FCVT.H.L, R370
  | fcvtHLu (rd rs1 : Reg) (rm : BitVec 3)  -- FCVT.H.LU, R371
  | fcvtSH (rd rs1 : Reg) (rm : BitVec 3)  -- FCVT.S.H, R372
  | fcvtHS (rd rs1 : Reg) (rm : BitVec 3)  -- FCVT.H.S, R373
  | fcvtDH (rd rs1 : Reg) (rm : BitVec 3)  -- FCVT.D.H, R374
  | fcvtHD (rd rs1 : Reg) (rm : BitVec 3)  -- FCVT.H.D, R375
  | fcvtQH (rd rs1 : Reg) (rm : BitVec 3)  -- FCVT.Q.H, R376
  | fcvtHQ (rd rs1 : Reg) (rm : BitVec 3)  -- FCVT.H.Q, R377
  | fsgnjH (rd rs1 rs2 : Reg)  -- FSGNJ.H, R378
  | fsgnjnH (rd rs1 rs2 : Reg)  -- FSGNJN.H, R379
  | fsgnjxH (rd rs1 rs2 : Reg)  -- FSGNJX.H, R380
  | fmvXH (rd rs1 : Reg)  -- FMV.X.H, R381
  | fmvHX (rd rs1 : Reg)  -- FMV.H.X, R382
  | feqH (rd rs1 rs2 : Reg)  -- FEQ.H, R383
  | fltH (rd rs1 rs2 : Reg)  -- FLT.H, R384
  | fleH (rd rs1 rs2 : Reg)  -- FLE.H, R385
  | fclassH (rd rs1 : Reg)  -- FCLASS.H, R386
  -- Zfa (45_zfa.md)
  | fliS (rd : Reg) (k : BitVec 5)  -- FLI.S, R401
  | fliD (rd : Reg) (k : BitVec 5)  -- FLI.D, R402
  | fliH (rd : Reg) (k : BitVec 5)  -- FLI.H, R403
  | fliQ (rd : Reg) (k : BitVec 5)  -- FLI.Q, R404
  | fminmS (rd rs1 rs2 : Reg)  -- FMINM.S, R405
  | fmaxmS (rd rs1 rs2 : Reg)  -- FMAXM.S, R406
  | fminmD (rd rs1 rs2 : Reg)  -- FMINM.D, R407
  | fmaxmD (rd rs1 rs2 : Reg)  -- FMAXM.D, R408
  | fminmH (rd rs1 rs2 : Reg)  -- FMINM.H, R409
  | fmaxmH (rd rs1 rs2 : Reg)  -- FMAXM.H, R410
  | fminmQ (rd rs1 rs2 : Reg)  -- FMINM.Q, R411
  | fmaxmQ (rd rs1 rs2 : Reg)  -- FMAXM.Q, R412
  | froundS (rd rs1 : Reg) (rm : BitVec 3)  -- FROUND.S, R413
  | froundnxS (rd rs1 : Reg) (rm : BitVec 3)  -- FROUNDNX.S, R414
  | froundD (rd rs1 : Reg) (rm : BitVec 3)  -- FROUND.D, R415
  | froundnxD (rd rs1 : Reg) (rm : BitVec 3)  -- FROUNDNX.D, R416
  | froundH (rd rs1 : Reg) (rm : BitVec 3)  -- FROUND.H, R417
  | froundnxH (rd rs1 : Reg) (rm : BitVec 3)  -- FROUNDNX.H, R418
  | froundQ (rd rs1 : Reg) (rm : BitVec 3)  -- FROUND.Q, R419
  | froundnxQ (rd rs1 : Reg) (rm : BitVec 3)  -- FROUNDNX.Q, R420
  | fcvtmodWD (rd rs1 : Reg)  -- FCVTMOD.W.D, R421
  | fmvhXD (rd rs1 : Reg)  -- FMVH.X.D, R422
  | fmvpDX (rd rs1 rs2 : Reg)  -- FMVP.D.X, R423
  | fmvhXQ (rd rs1 : Reg)  -- FMVH.X.Q, R424
  | fmvpQX (rd rs1 rs2 : Reg)  -- FMVP.Q.X, R425
  | fleqS (rd rs1 rs2 : Reg)  -- FLEQ.S, R426
  | fltqS (rd rs1 rs2 : Reg)  -- FLTQ.S, R427
  | fleqD (rd rs1 rs2 : Reg)  -- FLEQ.D, R428
  | fltqD (rd rs1 rs2 : Reg)  -- FLTQ.D, R429
  | fleqH (rd rs1 rs2 : Reg)  -- FLEQ.H, R430
  | fltqH (rd rs1 rs2 : Reg)  -- FLTQ.H, R431
  | fleqQ (rd rs1 rs2 : Reg)  -- FLEQ.Q, R432
  | fltqQ (rd rs1 rs2 : Reg)  -- FLTQ.Q, R433
  -- Zfbfmin (46_zfbfmin.md)
  | fcvtBf16S (rd rs1 : Reg) (rm : BitVec 3)  -- FCVT.BF16.S, R451
  | fcvtSBf16 (rd rs1 : Reg) (rm : BitVec 3)  -- FCVT.S.BF16, R452
  -- the CSR accesses (48_csr_access.md)
  | csrrw (rd : Reg) (csr : BitVec 12) (rs1 : Reg)  -- CSRRW, R491
  | csrrs (rd : Reg) (csr : BitVec 12) (rs1 : Reg)  -- CSRRS, R492
  | csrrc (rd : Reg) (csr : BitVec 12) (rs1 : Reg)  -- CSRRC, R493
  | csrrwi (rd : Reg) (csr : BitVec 12) (uimm : BitVec 5)  -- CSRRWI, R494
  | csrrsi (rd : Reg) (csr : BitVec 12) (uimm : BitVec 5)  -- CSRRSI, R495
  | csrrci (rd : Reg) (csr : BitVec 12) (uimm : BitVec 5)  -- CSRRCI, R496
deriving DecidableEq, Repr

end Sys2Proof
end

