-- ==== Sys2Proof/Decode.lean ====
section
/-!
DEFINITION. The decoder, total on any word, and the encoder, both written from the encodings of 30_encoding.md.
A row of the opcode table matches a word when `I & mask = match` (R106); at most one row does. What a row needs of
the configuration (its extension, its XLEN, its register pairs, its rounding mode) is checked when the instruction
executes, in Sys2Proof/Machine/Legality.lean.
-/

namespace Sys2Proof

/-! ## The fields of a word (30_encoding.md R91) -/

/-- The `rd` field, bits 11:7. -/
def rdOf (w : Word) : Reg := w.extractLsb' 7 5

/-- The `rs1` field, bits 19:15; also FLI's constant index and the immediate of CSRRWI, CSRRSI and CSRRCI. -/
def rs1Of (w : Word) : Reg := w.extractLsb' 15 5

/-- The `rs2` field, bits 24:20. -/
def rs2Of (w : Word) : Reg := w.extractLsb' 20 5

/-- The `rs3` field, bits 31:27, of the R4-type (R95). -/
def rs3Of (w : Word) : Reg := w.extractLsb' 27 5

/-- The `rm` field, bits 14:12 (R99). -/
def rmOf (w : Word) : BitVec 3 := w.extractLsb' 12 3

/-- The I-type immediate, bits 31:20 (R101); also the CSR number (R96). -/
def immIOf (w : Word) : BitVec 12 := w.extractLsb' 20 12

/-- The S-type immediate, bits 31:25 then 11:7 (R102). -/
def immSOf (w : Word) : BitVec 12 := w.extractLsb' 25 7 ++ w.extractLsb' 7 5

/-! ## The opcode table -/

/-- One row of the opcode table: the word matches when `w &&& mask = bits`, and `build` reads its operand fields. -/
structure Row where
  mask  : Word
  bits  : Word
  build : Word → Instr

/-- Whether a row matches a word (R106). -/
def Row.matches (r : Row) (w : Word) : Bool := w &&& r.mask == r.bits

/-- A load (R92). -/
def rowLoad (mask bits : Word) (mk : Reg → Reg → BitVec 12 → Instr) : Row :=
  ⟨mask, bits, fun w => mk (rdOf w) (rs1Of w) (immIOf w)⟩

/-- A store (R93). -/
def rowStore (mask bits : Word) (mk : Reg → Reg → BitVec 12 → Instr) : Row :=
  ⟨mask, bits, fun w => mk (rs2Of w) (rs1Of w) (immSOf w)⟩

/-- An R-type row with one source register (R94). -/
def row1 (mask bits : Word) (mk : Reg → Reg → Instr) : Row :=
  ⟨mask, bits, fun w => mk (rdOf w) (rs1Of w)⟩

/-- An R-type row with one source register and an `rm` field (R94). -/
def row1m (mask bits : Word) (mk : Reg → Reg → BitVec 3 → Instr) : Row :=
  ⟨mask, bits, fun w => mk (rdOf w) (rs1Of w) (rmOf w)⟩

/-- An R-type row with two source registers (R94). -/
def row2 (mask bits : Word) (mk : Reg → Reg → Reg → Instr) : Row :=
  ⟨mask, bits, fun w => mk (rdOf w) (rs1Of w) (rs2Of w)⟩

/-- An R-type row with two source registers and an `rm` field (R94). -/
def row2m (mask bits : Word) (mk : Reg → Reg → Reg → BitVec 3 → Instr) : Row :=
  ⟨mask, bits, fun w => mk (rdOf w) (rs1Of w) (rs2Of w) (rmOf w)⟩

/-- An R4-type row (R95). -/
def row3m (mask bits : Word) (mk : Reg → Reg → Reg → Reg → BitVec 3 → Instr) : Row :=
  ⟨mask, bits, fun w => mk (rdOf w) (rs1Of w) (rs2Of w) (rs3Of w) (rmOf w)⟩

/-- A CSR access; the `rs1` field is a register number or an immediate (R96). -/
def rowCsr (mask bits : Word) (mk : Reg → BitVec 12 → BitVec 5 → Instr) : Row :=
  ⟨mask, bits, fun w => mk (rdOf w) (immIOf w) (rs1Of w)⟩

/-- The rows of F, single precision (41_f_single.md). -/
def rowsF : List Row :=
  [ rowLoad 0x0000707f#32 0x00002007#32 .flw
  , rowStore 0x0000707f#32 0x00002027#32 .fsw
  , row2m 0xfe00007f#32 0x00000053#32 .faddS
  , row2m 0xfe00007f#32 0x08000053#32 .fsubS
  , row2m 0xfe00007f#32 0x10000053#32 .fmulS
  , row2m 0xfe00007f#32 0x18000053#32 .fdivS
  , row1m 0xfff0007f#32 0x58000053#32 .fsqrtS
  , row2 0xfe00707f#32 0x28000053#32 .fminS
  , row2 0xfe00707f#32 0x28001053#32 .fmaxS
  , row3m 0x0600007f#32 0x00000043#32 .fmaddS
  , row3m 0x0600007f#32 0x00000047#32 .fmsubS
  , row3m 0x0600007f#32 0x0000004b#32 .fnmsubS
  , row3m 0x0600007f#32 0x0000004f#32 .fnmaddS
  , row1m 0xfff0007f#32 0xc0000053#32 .fcvtWS
  , row1m 0xfff0007f#32 0xc0100053#32 .fcvtWuS
  , row1m 0xfff0007f#32 0xc0200053#32 .fcvtLS
  , row1m 0xfff0007f#32 0xc0300053#32 .fcvtLuS
  , row1m 0xfff0007f#32 0xd0000053#32 .fcvtSW
  , row1m 0xfff0007f#32 0xd0100053#32 .fcvtSWu
  , row1m 0xfff0007f#32 0xd0200053#32 .fcvtSL
  , row1m 0xfff0007f#32 0xd0300053#32 .fcvtSLu
  , row2 0xfe00707f#32 0x20000053#32 .fsgnjS
  , row2 0xfe00707f#32 0x20001053#32 .fsgnjnS
  , row2 0xfe00707f#32 0x20002053#32 .fsgnjxS
  , row1 0xfff0707f#32 0xe0000053#32 .fmvXW
  , row1 0xfff0707f#32 0xf0000053#32 .fmvWX
  , row2 0xfe00707f#32 0xa0002053#32 .feqS
  , row2 0xfe00707f#32 0xa0001053#32 .fltS
  , row2 0xfe00707f#32 0xa0000053#32 .fleS
  , row1 0xfff0707f#32 0xe0001053#32 .fclassS ]

/-- The rows of D, double precision (42_d_double.md). -/
def rowsD : List Row :=
  [ rowLoad 0x0000707f#32 0x00003007#32 .fld
  , rowStore 0x0000707f#32 0x00003027#32 .fsd
  , row2m 0xfe00007f#32 0x02000053#32 .faddD
  , row2m 0xfe00007f#32 0x0a000053#32 .fsubD
  , row2m 0xfe00007f#32 0x12000053#32 .fmulD
  , row2m 0xfe00007f#32 0x1a000053#32 .fdivD
  , row1m 0xfff0007f#32 0x5a000053#32 .fsqrtD
  , row2 0xfe00707f#32 0x2a000053#32 .fminD
  , row2 0xfe00707f#32 0x2a001053#32 .fmaxD
  , row3m 0x0600007f#32 0x02000043#32 .fmaddD
  , row3m 0x0600007f#32 0x02000047#32 .fmsubD
  , row3m 0x0600007f#32 0x0200004b#32 .fnmsubD
  , row3m 0x0600007f#32 0x0200004f#32 .fnmaddD
  , row1m 0xfff0007f#32 0xc2000053#32 .fcvtWD
  , row1m 0xfff0007f#32 0xc2100053#32 .fcvtWuD
  , row1m 0xfff0007f#32 0xc2200053#32 .fcvtLD
  , row1m 0xfff0007f#32 0xc2300053#32 .fcvtLuD
  , row1m 0xfff0007f#32 0xd2000053#32 .fcvtDW
  , row1m 0xfff0007f#32 0xd2100053#32 .fcvtDWu
  , row1m 0xfff0007f#32 0xd2200053#32 .fcvtDL
  , row1m 0xfff0007f#32 0xd2300053#32 .fcvtDLu
  , row1m 0xfff0007f#32 0x40100053#32 .fcvtSD
  , row1m 0xfff0007f#32 0x42000053#32 .fcvtDS
  , row2 0xfe00707f#32 0x22000053#32 .fsgnjD
  , row2 0xfe00707f#32 0x22001053#32 .fsgnjnD
  , row2 0xfe00707f#32 0x22002053#32 .fsgnjxD
  , row1 0xfff0707f#32 0xe2000053#32 .fmvXD
  , row1 0xfff0707f#32 0xf2000053#32 .fmvDX
  , row2 0xfe00707f#32 0xa2002053#32 .feqD
  , row2 0xfe00707f#32 0xa2001053#32 .fltD
  , row2 0xfe00707f#32 0xa2000053#32 .fleD
  , row1 0xfff0707f#32 0xe2001053#32 .fclassD ]

/-- The rows of Q, quad precision (43_q_quad.md). -/
def rowsQ : List Row :=
  [ rowLoad 0x0000707f#32 0x00004007#32 .flq
  , rowStore 0x0000707f#32 0x00004027#32 .fsq
  , row2m 0xfe00007f#32 0x06000053#32 .faddQ
  , row2m 0xfe00007f#32 0x0e000053#32 .fsubQ
  , row2m 0xfe00007f#32 0x16000053#32 .fmulQ
  , row2m 0xfe00007f#32 0x1e000053#32 .fdivQ
  , row1m 0xfff0007f#32 0x5e000053#32 .fsqrtQ
  , row2 0xfe00707f#32 0x2e000053#32 .fminQ
  , row2 0xfe00707f#32 0x2e001053#32 .fmaxQ
  , row3m 0x0600007f#32 0x06000043#32 .fmaddQ
  , row3m 0x0600007f#32 0x06000047#32 .fmsubQ
  , row3m 0x0600007f#32 0x0600004b#32 .fnmsubQ
  , row3m 0x0600007f#32 0x0600004f#32 .fnmaddQ
  , row1m 0xfff0007f#32 0xc6000053#32 .fcvtWQ
  , row1m 0xfff0007f#32 0xc6100053#32 .fcvtWuQ
  , row1m 0xfff0007f#32 0xc6200053#32 .fcvtLQ
  , row1m 0xfff0007f#32 0xc6300053#32 .fcvtLuQ
  , row1m 0xfff0007f#32 0xd6000053#32 .fcvtQW
  , row1m 0xfff0007f#32 0xd6100053#32 .fcvtQWu
  , row1m 0xfff0007f#32 0xd6200053#32 .fcvtQL
  , row1m 0xfff0007f#32 0xd6300053#32 .fcvtQLu
  , row1m 0xfff0007f#32 0x40300053#32 .fcvtSQ
  , row1m 0xfff0007f#32 0x46000053#32 .fcvtQS
  , row1m 0xfff0007f#32 0x42300053#32 .fcvtDQ
  , row1m 0xfff0007f#32 0x46100053#32 .fcvtQD
  , row2 0xfe00707f#32 0x26000053#32 .fsgnjQ
  , row2 0xfe00707f#32 0x26001053#32 .fsgnjnQ
  , row2 0xfe00707f#32 0x26002053#32 .fsgnjxQ
  , row2 0xfe00707f#32 0xa6002053#32 .feqQ
  , row2 0xfe00707f#32 0xa6001053#32 .fltQ
  , row2 0xfe00707f#32 0xa6000053#32 .fleQ
  , row1 0xfff0707f#32 0xe6001053#32 .fclassQ ]

/-- The rows of Zfh and Zfhmin, half precision (44_zfh_half.md). -/
def rowsH : List Row :=
  [ rowLoad 0x0000707f#32 0x00001007#32 .flh
  , rowStore 0x0000707f#32 0x00001027#32 .fsh
  , row2m 0xfe00007f#32 0x04000053#32 .faddH
  , row2m 0xfe00007f#32 0x0c000053#32 .fsubH
  , row2m 0xfe00007f#32 0x14000053#32 .fmulH
  , row2m 0xfe00007f#32 0x1c000053#32 .fdivH
  , row1m 0xfff0007f#32 0x5c000053#32 .fsqrtH
  , row2 0xfe00707f#32 0x2c000053#32 .fminH
  , row2 0xfe00707f#32 0x2c001053#32 .fmaxH
  , row3m 0x0600007f#32 0x04000043#32 .fmaddH
  , row3m 0x0600007f#32 0x04000047#32 .fmsubH
  , row3m 0x0600007f#32 0x0400004b#32 .fnmsubH
  , row3m 0x0600007f#32 0x0400004f#32 .fnmaddH
  , row1m 0xfff0007f#32 0xc4000053#32 .fcvtWH
  , row1m 0xfff0007f#32 0xc4100053#32 .fcvtWuH
  , row1m 0xfff0007f#32 0xc4200053#32 .fcvtLH
  , row1m 0xfff0007f#32 0xc4300053#32 .fcvtLuH
  , row1m 0xfff0007f#32 0xd4000053#32 .fcvtHW
  , row1m 0xfff0007f#32 0xd4100053#32 .fcvtHWu
  , row1m 0xfff0007f#32 0xd4200053#32 .fcvtHL
  , row1m 0xfff0007f#32 0xd4300053#32 .fcvtHLu
  , row1m 0xfff0007f#32 0x40200053#32 .fcvtSH
  , row1m 0xfff0007f#32 0x44000053#32 .fcvtHS
  , row1m 0xfff0007f#32 0x42200053#32 .fcvtDH
  , row1m 0xfff0007f#32 0x44100053#32 .fcvtHD
  , row1m 0xfff0007f#32 0x46200053#32 .fcvtQH
  , row1m 0xfff0007f#32 0x44300053#32 .fcvtHQ
  , row2 0xfe00707f#32 0x24000053#32 .fsgnjH
  , row2 0xfe00707f#32 0x24001053#32 .fsgnjnH
  , row2 0xfe00707f#32 0x24002053#32 .fsgnjxH
  , row1 0xfff0707f#32 0xe4000053#32 .fmvXH
  , row1 0xfff0707f#32 0xf4000053#32 .fmvHX
  , row2 0xfe00707f#32 0xa4002053#32 .feqH
  , row2 0xfe00707f#32 0xa4001053#32 .fltH
  , row2 0xfe00707f#32 0xa4000053#32 .fleH
  , row1 0xfff0707f#32 0xe4001053#32 .fclassH ]

/-- The rows of Zfa (45_zfa.md). -/
def rowsZfa : List Row :=
  [ row1 0xfff0707f#32 0xf0100053#32 .fliS
  , row1 0xfff0707f#32 0xf2100053#32 .fliD
  , row1 0xfff0707f#32 0xf4100053#32 .fliH
  , row1 0xfff0707f#32 0xf6100053#32 .fliQ
  , row2 0xfe00707f#32 0x28002053#32 .fminmS
  , row2 0xfe00707f#32 0x28003053#32 .fmaxmS
  , row2 0xfe00707f#32 0x2a002053#32 .fminmD
  , row2 0xfe00707f#32 0x2a003053#32 .fmaxmD
  , row2 0xfe00707f#32 0x2c002053#32 .fminmH
  , row2 0xfe00707f#32 0x2c003053#32 .fmaxmH
  , row2 0xfe00707f#32 0x2e002053#32 .fminmQ
  , row2 0xfe00707f#32 0x2e003053#32 .fmaxmQ
  , row1m 0xfff0007f#32 0x40400053#32 .froundS
  , row1m 0xfff0007f#32 0x40500053#32 .froundnxS
  , row1m 0xfff0007f#32 0x42400053#32 .froundD
  , row1m 0xfff0007f#32 0x42500053#32 .froundnxD
  , row1m 0xfff0007f#32 0x44400053#32 .froundH
  , row1m 0xfff0007f#32 0x44500053#32 .froundnxH
  , row1m 0xfff0007f#32 0x46400053#32 .froundQ
  , row1m 0xfff0007f#32 0x46500053#32 .froundnxQ
  , row1 0xfff0707f#32 0xc2801053#32 .fcvtmodWD
  , row1 0xfff0707f#32 0xe2100053#32 .fmvhXD
  , row2 0xfe00707f#32 0xb2000053#32 .fmvpDX
  , row1 0xfff0707f#32 0xe6100053#32 .fmvhXQ
  , row2 0xfe00707f#32 0xb6000053#32 .fmvpQX
  , row2 0xfe00707f#32 0xa0004053#32 .fleqS
  , row2 0xfe00707f#32 0xa0005053#32 .fltqS
  , row2 0xfe00707f#32 0xa2004053#32 .fleqD
  , row2 0xfe00707f#32 0xa2005053#32 .fltqD
  , row2 0xfe00707f#32 0xa4004053#32 .fleqH
  , row2 0xfe00707f#32 0xa4005053#32 .fltqH
  , row2 0xfe00707f#32 0xa6004053#32 .fleqQ
  , row2 0xfe00707f#32 0xa6005053#32 .fltqQ ]

/-- The rows of Zfbfmin (46_zfbfmin.md). -/
def rowsBf16 : List Row :=
  [ row1m 0xfff0007f#32 0x44800053#32 .fcvtBf16S
  , row1m 0xfff0007f#32 0x40600053#32 .fcvtSBf16 ]

/-- The rows of the CSR accesses (48_csr_access.md). -/
def rowsCsr : List Row :=
  [ rowCsr 0x0000707f#32 0x00001073#32 .csrrw
  , rowCsr 0x0000707f#32 0x00002073#32 .csrrs
  , rowCsr 0x0000707f#32 0x00003073#32 .csrrc
  , rowCsr 0x0000707f#32 0x00005073#32 .csrrwi
  , rowCsr 0x0000707f#32 0x00006073#32 .csrrsi
  , rowCsr 0x0000707f#32 0x00007073#32 .csrrci ]

/-- spec/opcode_table.json, every row. -/
def rows : List Row :=
  rowsF ++ rowsD ++ rowsQ ++ rowsH ++ rowsZfa ++ rowsBf16 ++ rowsCsr

/-! ## Decoding -/

/-- What a fetched word is. -/
inductive Decoded
  /-- the one row that matches, with its operands -/
  | instr (i : Instr)
  /-- a word under a floating-point major opcode that no row matches: an illegal instruction (R107) -/
  | illegal (w : Word)
  /-- a word of the base ISA, or a SYSTEM word that is no CSR access: the spec gives it no meaning (48_csr_access.md
  R499, 60_exceptions.md R529) -/
  | outOfScope (w : Word)
deriving DecidableEq, Repr

/-- Whether a word is under one of the seven floating-point major opcodes of R97: LOAD-FP, STORE-FP, MADD, MSUB,
NMSUB, NMADD, OP-FP. -/
def isFpMajor (w : Word) : Bool :=
  [0x07#7, 0x27#7, 0x43#7, 0x47#7, 0x4b#7, 0x4f#7, 0x53#7].contains (w.extractLsb' 0 7)

/-- The decoder (R106, R107). -/
def decode (w : Word) : Decoded :=
  match rows.find? (fun r => r.matches w) with
  | some r => .instr (r.build w)
  | none => if isFpMajor w then .illegal w else .outOfScope w

/-- The word that four bytes of memory hold, the first byte at the lowest address: little-endian (20_memory.md
R62, R90). -/
def wordOfBytes (b0 b1 b2 b3 : Byte) : Word := b3 ++ b2 ++ b1 ++ b0

/-- The decoder, from the four bytes of an instruction. -/
def decodeBytes (b0 b1 b2 b3 : Byte) : Decoded := decode (wordOfBytes b0 b1 b2 b3)

/-- The instruction a decoded word stands for, if it stands for one. -/
def Decoded.instr? : Decoded → Option Instr
  | .instr i => some i
  | .illegal _ => none
  | .outOfScope _ => none

/-- The instruction the decoder reads from the word `w`, its bits numbered as spec/opcode_table.json numbers them and
every bit from `nbits` up taken as 0; the word is laid out as four bytes first. -/
def decodeTableWord (nbits w : Nat) : Option Instr :=
  let v : Word := BitVec.ofNat 32 (w % 2 ^ min nbits 32)
  (decodeBytes (v.extractLsb' 0 8) (v.extractLsb' 8 8) (v.extractLsb' 16 8) (v.extractLsb' 24 8)).instr?

/-! ## Encoding -/

/-- A field of `n` bits placed with its lowest bit at bit `lo` of a word. -/
def place {n : Nat} (lo : Nat) (v : BitVec n) : Word := v.setWidth 32 <<< lo

/-- A load's word (R92). -/
def encLoad (bits : Word) (rd rs1 : Reg) (imm : BitVec 12) : Word :=
  bits ||| place 7 rd ||| place 15 rs1 ||| place 20 imm

/-- A store's word (R93): the immediate is split over bits 31:25 and 11:7. -/
def encStore (bits : Word) (rs2 rs1 : Reg) (imm : BitVec 12) : Word :=
  bits ||| place 7 (imm.extractLsb' 0 5) ||| place 15 rs1 ||| place 20 rs2 ||| place 25 (imm.extractLsb' 5 7)

/-- An R-type word with one source register (R94). -/
def enc1 (bits : Word) (rd rs1 : Reg) : Word := bits ||| place 7 rd ||| place 15 rs1

/-- An R-type word with one source register and an `rm` field (R94). -/
def enc1m (bits : Word) (rd rs1 : Reg) (rm : BitVec 3) : Word :=
  bits ||| place 7 rd ||| place 12 rm ||| place 15 rs1

/-- An R-type word with two source registers (R94). -/
def enc2 (bits : Word) (rd rs1 rs2 : Reg) : Word := bits ||| place 7 rd ||| place 15 rs1 ||| place 20 rs2

/-- An R-type word with two source registers and an `rm` field (R94). -/
def enc2m (bits : Word) (rd rs1 rs2 : Reg) (rm : BitVec 3) : Word :=
  bits ||| place 7 rd ||| place 12 rm ||| place 15 rs1 ||| place 20 rs2

/-- An R4-type word (R95). -/
def enc3m (bits : Word) (rd rs1 rs2 rs3 : Reg) (rm : BitVec 3) : Word :=
  bits ||| place 7 rd ||| place 12 rm ||| place 15 rs1 ||| place 20 rs2 ||| place 27 rs3

/-- A CSR access's word (R96). -/
def encCsr (bits : Word) (rd : Reg) (csr : BitVec 12) (src : BitVec 5) : Word :=
  bits ||| place 7 rd ||| place 15 src ||| place 20 csr

/-- The word of an instruction, from the `match` value of its row and its operand fields. -/
def encode : Instr → Word
  | .flw rd rs1 imm => encLoad 0x00002007#32 rd rs1 imm
  | .fsw rs2 rs1 imm => encStore 0x00002027#32 rs2 rs1 imm
  | .faddS rd rs1 rs2 rm => enc2m 0x00000053#32 rd rs1 rs2 rm
  | .fsubS rd rs1 rs2 rm => enc2m 0x08000053#32 rd rs1 rs2 rm
  | .fmulS rd rs1 rs2 rm => enc2m 0x10000053#32 rd rs1 rs2 rm
  | .fdivS rd rs1 rs2 rm => enc2m 0x18000053#32 rd rs1 rs2 rm
  | .fsqrtS rd rs1 rm => enc1m 0x58000053#32 rd rs1 rm
  | .fminS rd rs1 rs2 => enc2 0x28000053#32 rd rs1 rs2
  | .fmaxS rd rs1 rs2 => enc2 0x28001053#32 rd rs1 rs2
  | .fmaddS rd rs1 rs2 rs3 rm => enc3m 0x00000043#32 rd rs1 rs2 rs3 rm
  | .fmsubS rd rs1 rs2 rs3 rm => enc3m 0x00000047#32 rd rs1 rs2 rs3 rm
  | .fnmsubS rd rs1 rs2 rs3 rm => enc3m 0x0000004b#32 rd rs1 rs2 rs3 rm
  | .fnmaddS rd rs1 rs2 rs3 rm => enc3m 0x0000004f#32 rd rs1 rs2 rs3 rm
  | .fcvtWS rd rs1 rm => enc1m 0xc0000053#32 rd rs1 rm
  | .fcvtWuS rd rs1 rm => enc1m 0xc0100053#32 rd rs1 rm
  | .fcvtLS rd rs1 rm => enc1m 0xc0200053#32 rd rs1 rm
  | .fcvtLuS rd rs1 rm => enc1m 0xc0300053#32 rd rs1 rm
  | .fcvtSW rd rs1 rm => enc1m 0xd0000053#32 rd rs1 rm
  | .fcvtSWu rd rs1 rm => enc1m 0xd0100053#32 rd rs1 rm
  | .fcvtSL rd rs1 rm => enc1m 0xd0200053#32 rd rs1 rm
  | .fcvtSLu rd rs1 rm => enc1m 0xd0300053#32 rd rs1 rm
  | .fsgnjS rd rs1 rs2 => enc2 0x20000053#32 rd rs1 rs2
  | .fsgnjnS rd rs1 rs2 => enc2 0x20001053#32 rd rs1 rs2
  | .fsgnjxS rd rs1 rs2 => enc2 0x20002053#32 rd rs1 rs2
  | .fmvXW rd rs1 => enc1 0xe0000053#32 rd rs1
  | .fmvWX rd rs1 => enc1 0xf0000053#32 rd rs1
  | .feqS rd rs1 rs2 => enc2 0xa0002053#32 rd rs1 rs2
  | .fltS rd rs1 rs2 => enc2 0xa0001053#32 rd rs1 rs2
  | .fleS rd rs1 rs2 => enc2 0xa0000053#32 rd rs1 rs2
  | .fclassS rd rs1 => enc1 0xe0001053#32 rd rs1
  | .fld rd rs1 imm => encLoad 0x00003007#32 rd rs1 imm
  | .fsd rs2 rs1 imm => encStore 0x00003027#32 rs2 rs1 imm
  | .faddD rd rs1 rs2 rm => enc2m 0x02000053#32 rd rs1 rs2 rm
  | .fsubD rd rs1 rs2 rm => enc2m 0x0a000053#32 rd rs1 rs2 rm
  | .fmulD rd rs1 rs2 rm => enc2m 0x12000053#32 rd rs1 rs2 rm
  | .fdivD rd rs1 rs2 rm => enc2m 0x1a000053#32 rd rs1 rs2 rm
  | .fsqrtD rd rs1 rm => enc1m 0x5a000053#32 rd rs1 rm
  | .fminD rd rs1 rs2 => enc2 0x2a000053#32 rd rs1 rs2
  | .fmaxD rd rs1 rs2 => enc2 0x2a001053#32 rd rs1 rs2
  | .fmaddD rd rs1 rs2 rs3 rm => enc3m 0x02000043#32 rd rs1 rs2 rs3 rm
  | .fmsubD rd rs1 rs2 rs3 rm => enc3m 0x02000047#32 rd rs1 rs2 rs3 rm
  | .fnmsubD rd rs1 rs2 rs3 rm => enc3m 0x0200004b#32 rd rs1 rs2 rs3 rm
  | .fnmaddD rd rs1 rs2 rs3 rm => enc3m 0x0200004f#32 rd rs1 rs2 rs3 rm
  | .fcvtWD rd rs1 rm => enc1m 0xc2000053#32 rd rs1 rm
  | .fcvtWuD rd rs1 rm => enc1m 0xc2100053#32 rd rs1 rm
  | .fcvtLD rd rs1 rm => enc1m 0xc2200053#32 rd rs1 rm
  | .fcvtLuD rd rs1 rm => enc1m 0xc2300053#32 rd rs1 rm
  | .fcvtDW rd rs1 rm => enc1m 0xd2000053#32 rd rs1 rm
  | .fcvtDWu rd rs1 rm => enc1m 0xd2100053#32 rd rs1 rm
  | .fcvtDL rd rs1 rm => enc1m 0xd2200053#32 rd rs1 rm
  | .fcvtDLu rd rs1 rm => enc1m 0xd2300053#32 rd rs1 rm
  | .fcvtSD rd rs1 rm => enc1m 0x40100053#32 rd rs1 rm
  | .fcvtDS rd rs1 rm => enc1m 0x42000053#32 rd rs1 rm
  | .fsgnjD rd rs1 rs2 => enc2 0x22000053#32 rd rs1 rs2
  | .fsgnjnD rd rs1 rs2 => enc2 0x22001053#32 rd rs1 rs2
  | .fsgnjxD rd rs1 rs2 => enc2 0x22002053#32 rd rs1 rs2
  | .fmvXD rd rs1 => enc1 0xe2000053#32 rd rs1
  | .fmvDX rd rs1 => enc1 0xf2000053#32 rd rs1
  | .feqD rd rs1 rs2 => enc2 0xa2002053#32 rd rs1 rs2
  | .fltD rd rs1 rs2 => enc2 0xa2001053#32 rd rs1 rs2
  | .fleD rd rs1 rs2 => enc2 0xa2000053#32 rd rs1 rs2
  | .fclassD rd rs1 => enc1 0xe2001053#32 rd rs1
  | .flq rd rs1 imm => encLoad 0x00004007#32 rd rs1 imm
  | .fsq rs2 rs1 imm => encStore 0x00004027#32 rs2 rs1 imm
  | .faddQ rd rs1 rs2 rm => enc2m 0x06000053#32 rd rs1 rs2 rm
  | .fsubQ rd rs1 rs2 rm => enc2m 0x0e000053#32 rd rs1 rs2 rm
  | .fmulQ rd rs1 rs2 rm => enc2m 0x16000053#32 rd rs1 rs2 rm
  | .fdivQ rd rs1 rs2 rm => enc2m 0x1e000053#32 rd rs1 rs2 rm
  | .fsqrtQ rd rs1 rm => enc1m 0x5e000053#32 rd rs1 rm
  | .fminQ rd rs1 rs2 => enc2 0x2e000053#32 rd rs1 rs2
  | .fmaxQ rd rs1 rs2 => enc2 0x2e001053#32 rd rs1 rs2
  | .fmaddQ rd rs1 rs2 rs3 rm => enc3m 0x06000043#32 rd rs1 rs2 rs3 rm
  | .fmsubQ rd rs1 rs2 rs3 rm => enc3m 0x06000047#32 rd rs1 rs2 rs3 rm
  | .fnmsubQ rd rs1 rs2 rs3 rm => enc3m 0x0600004b#32 rd rs1 rs2 rs3 rm
  | .fnmaddQ rd rs1 rs2 rs3 rm => enc3m 0x0600004f#32 rd rs1 rs2 rs3 rm
  | .fcvtWQ rd rs1 rm => enc1m 0xc6000053#32 rd rs1 rm
  | .fcvtWuQ rd rs1 rm => enc1m 0xc6100053#32 rd rs1 rm
  | .fcvtLQ rd rs1 rm => enc1m 0xc6200053#32 rd rs1 rm
  | .fcvtLuQ rd rs1 rm => enc1m 0xc6300053#32 rd rs1 rm
  | .fcvtQW rd rs1 rm => enc1m 0xd6000053#32 rd rs1 rm
  | .fcvtQWu rd rs1 rm => enc1m 0xd6100053#32 rd rs1 rm
  | .fcvtQL rd rs1 rm => enc1m 0xd6200053#32 rd rs1 rm
  | .fcvtQLu rd rs1 rm => enc1m 0xd6300053#32 rd rs1 rm
  | .fcvtSQ rd rs1 rm => enc1m 0x40300053#32 rd rs1 rm
  | .fcvtQS rd rs1 rm => enc1m 0x46000053#32 rd rs1 rm
  | .fcvtDQ rd rs1 rm => enc1m 0x42300053#32 rd rs1 rm
  | .fcvtQD rd rs1 rm => enc1m 0x46100053#32 rd rs1 rm
  | .fsgnjQ rd rs1 rs2 => enc2 0x26000053#32 rd rs1 rs2
  | .fsgnjnQ rd rs1 rs2 => enc2 0x26001053#32 rd rs1 rs2
  | .fsgnjxQ rd rs1 rs2 => enc2 0x26002053#32 rd rs1 rs2
  | .feqQ rd rs1 rs2 => enc2 0xa6002053#32 rd rs1 rs2
  | .fltQ rd rs1 rs2 => enc2 0xa6001053#32 rd rs1 rs2
  | .fleQ rd rs1 rs2 => enc2 0xa6000053#32 rd rs1 rs2
  | .fclassQ rd rs1 => enc1 0xe6001053#32 rd rs1
  | .flh rd rs1 imm => encLoad 0x00001007#32 rd rs1 imm
  | .fsh rs2 rs1 imm => encStore 0x00001027#32 rs2 rs1 imm
  | .faddH rd rs1 rs2 rm => enc2m 0x04000053#32 rd rs1 rs2 rm
  | .fsubH rd rs1 rs2 rm => enc2m 0x0c000053#32 rd rs1 rs2 rm
  | .fmulH rd rs1 rs2 rm => enc2m 0x14000053#32 rd rs1 rs2 rm
  | .fdivH rd rs1 rs2 rm => enc2m 0x1c000053#32 rd rs1 rs2 rm
  | .fsqrtH rd rs1 rm => enc1m 0x5c000053#32 rd rs1 rm
  | .fminH rd rs1 rs2 => enc2 0x2c000053#32 rd rs1 rs2
  | .fmaxH rd rs1 rs2 => enc2 0x2c001053#32 rd rs1 rs2
  | .fmaddH rd rs1 rs2 rs3 rm => enc3m 0x04000043#32 rd rs1 rs2 rs3 rm
  | .fmsubH rd rs1 rs2 rs3 rm => enc3m 0x04000047#32 rd rs1 rs2 rs3 rm
  | .fnmsubH rd rs1 rs2 rs3 rm => enc3m 0x0400004b#32 rd rs1 rs2 rs3 rm
  | .fnmaddH rd rs1 rs2 rs3 rm => enc3m 0x0400004f#32 rd rs1 rs2 rs3 rm
  | .fcvtWH rd rs1 rm => enc1m 0xc4000053#32 rd rs1 rm
  | .fcvtWuH rd rs1 rm => enc1m 0xc4100053#32 rd rs1 rm
  | .fcvtLH rd rs1 rm => enc1m 0xc4200053#32 rd rs1 rm
  | .fcvtLuH rd rs1 rm => enc1m 0xc4300053#32 rd rs1 rm
  | .fcvtHW rd rs1 rm => enc1m 0xd4000053#32 rd rs1 rm
  | .fcvtHWu rd rs1 rm => enc1m 0xd4100053#32 rd rs1 rm
  | .fcvtHL rd rs1 rm => enc1m 0xd4200053#32 rd rs1 rm
  | .fcvtHLu rd rs1 rm => enc1m 0xd4300053#32 rd rs1 rm
  | .fcvtSH rd rs1 rm => enc1m 0x40200053#32 rd rs1 rm
  | .fcvtHS rd rs1 rm => enc1m 0x44000053#32 rd rs1 rm
  | .fcvtDH rd rs1 rm => enc1m 0x42200053#32 rd rs1 rm
  | .fcvtHD rd rs1 rm => enc1m 0x44100053#32 rd rs1 rm
  | .fcvtQH rd rs1 rm => enc1m 0x46200053#32 rd rs1 rm
  | .fcvtHQ rd rs1 rm => enc1m 0x44300053#32 rd rs1 rm
  | .fsgnjH rd rs1 rs2 => enc2 0x24000053#32 rd rs1 rs2
  | .fsgnjnH rd rs1 rs2 => enc2 0x24001053#32 rd rs1 rs2
  | .fsgnjxH rd rs1 rs2 => enc2 0x24002053#32 rd rs1 rs2
  | .fmvXH rd rs1 => enc1 0xe4000053#32 rd rs1
  | .fmvHX rd rs1 => enc1 0xf4000053#32 rd rs1
  | .feqH rd rs1 rs2 => enc2 0xa4002053#32 rd rs1 rs2
  | .fltH rd rs1 rs2 => enc2 0xa4001053#32 rd rs1 rs2
  | .fleH rd rs1 rs2 => enc2 0xa4000053#32 rd rs1 rs2
  | .fclassH rd rs1 => enc1 0xe4001053#32 rd rs1
  | .fliS rd k => enc1 0xf0100053#32 rd k
  | .fliD rd k => enc1 0xf2100053#32 rd k
  | .fliH rd k => enc1 0xf4100053#32 rd k
  | .fliQ rd k => enc1 0xf6100053#32 rd k
  | .fminmS rd rs1 rs2 => enc2 0x28002053#32 rd rs1 rs2
  | .fmaxmS rd rs1 rs2 => enc2 0x28003053#32 rd rs1 rs2
  | .fminmD rd rs1 rs2 => enc2 0x2a002053#32 rd rs1 rs2
  | .fmaxmD rd rs1 rs2 => enc2 0x2a003053#32 rd rs1 rs2
  | .fminmH rd rs1 rs2 => enc2 0x2c002053#32 rd rs1 rs2
  | .fmaxmH rd rs1 rs2 => enc2 0x2c003053#32 rd rs1 rs2
  | .fminmQ rd rs1 rs2 => enc2 0x2e002053#32 rd rs1 rs2
  | .fmaxmQ rd rs1 rs2 => enc2 0x2e003053#32 rd rs1 rs2
  | .froundS rd rs1 rm => enc1m 0x40400053#32 rd rs1 rm
  | .froundnxS rd rs1 rm => enc1m 0x40500053#32 rd rs1 rm
  | .froundD rd rs1 rm => enc1m 0x42400053#32 rd rs1 rm
  | .froundnxD rd rs1 rm => enc1m 0x42500053#32 rd rs1 rm
  | .froundH rd rs1 rm => enc1m 0x44400053#32 rd rs1 rm
  | .froundnxH rd rs1 rm => enc1m 0x44500053#32 rd rs1 rm
  | .froundQ rd rs1 rm => enc1m 0x46400053#32 rd rs1 rm
  | .froundnxQ rd rs1 rm => enc1m 0x46500053#32 rd rs1 rm
  | .fcvtmodWD rd rs1 => enc1 0xc2801053#32 rd rs1
  | .fmvhXD rd rs1 => enc1 0xe2100053#32 rd rs1
  | .fmvpDX rd rs1 rs2 => enc2 0xb2000053#32 rd rs1 rs2
  | .fmvhXQ rd rs1 => enc1 0xe6100053#32 rd rs1
  | .fmvpQX rd rs1 rs2 => enc2 0xb6000053#32 rd rs1 rs2
  | .fleqS rd rs1 rs2 => enc2 0xa0004053#32 rd rs1 rs2
  | .fltqS rd rs1 rs2 => enc2 0xa0005053#32 rd rs1 rs2
  | .fleqD rd rs1 rs2 => enc2 0xa2004053#32 rd rs1 rs2
  | .fltqD rd rs1 rs2 => enc2 0xa2005053#32 rd rs1 rs2
  | .fleqH rd rs1 rs2 => enc2 0xa4004053#32 rd rs1 rs2
  | .fltqH rd rs1 rs2 => enc2 0xa4005053#32 rd rs1 rs2
  | .fleqQ rd rs1 rs2 => enc2 0xa6004053#32 rd rs1 rs2
  | .fltqQ rd rs1 rs2 => enc2 0xa6005053#32 rd rs1 rs2
  | .fcvtBf16S rd rs1 rm => enc1m 0x44800053#32 rd rs1 rm
  | .fcvtSBf16 rd rs1 rm => enc1m 0x40600053#32 rd rs1 rm
  | .csrrw rd csr rs1 => encCsr 0x00001073#32 rd csr rs1
  | .csrrs rd csr rs1 => encCsr 0x00002073#32 rd csr rs1
  | .csrrc rd csr rs1 => encCsr 0x00003073#32 rd csr rs1
  | .csrrwi rd csr uimm => encCsr 0x00005073#32 rd csr uimm
  | .csrrsi rd csr uimm => encCsr 0x00006073#32 rd csr uimm
  | .csrrci rd csr uimm => encCsr 0x00007073#32 rd csr uimm

/-- The `rm` field of an instruction that has one (30_encoding.md R99, R109); FCVTMOD.W.D's is fixed (R112). -/
def rmField : Instr → Option (BitVec 3)
  | .flw _ _ _ => none
  | .fsw _ _ _ => none
  | .faddS _ _ _ rm => some rm
  | .fsubS _ _ _ rm => some rm
  | .fmulS _ _ _ rm => some rm
  | .fdivS _ _ _ rm => some rm
  | .fsqrtS _ _ rm => some rm
  | .fminS _ _ _ => none
  | .fmaxS _ _ _ => none
  | .fmaddS _ _ _ _ rm => some rm
  | .fmsubS _ _ _ _ rm => some rm
  | .fnmsubS _ _ _ _ rm => some rm
  | .fnmaddS _ _ _ _ rm => some rm
  | .fcvtWS _ _ rm => some rm
  | .fcvtWuS _ _ rm => some rm
  | .fcvtLS _ _ rm => some rm
  | .fcvtLuS _ _ rm => some rm
  | .fcvtSW _ _ rm => some rm
  | .fcvtSWu _ _ rm => some rm
  | .fcvtSL _ _ rm => some rm
  | .fcvtSLu _ _ rm => some rm
  | .fsgnjS _ _ _ => none
  | .fsgnjnS _ _ _ => none
  | .fsgnjxS _ _ _ => none
  | .fmvXW _ _ => none
  | .fmvWX _ _ => none
  | .feqS _ _ _ => none
  | .fltS _ _ _ => none
  | .fleS _ _ _ => none
  | .fclassS _ _ => none
  | .fld _ _ _ => none
  | .fsd _ _ _ => none
  | .faddD _ _ _ rm => some rm
  | .fsubD _ _ _ rm => some rm
  | .fmulD _ _ _ rm => some rm
  | .fdivD _ _ _ rm => some rm
  | .fsqrtD _ _ rm => some rm
  | .fminD _ _ _ => none
  | .fmaxD _ _ _ => none
  | .fmaddD _ _ _ _ rm => some rm
  | .fmsubD _ _ _ _ rm => some rm
  | .fnmsubD _ _ _ _ rm => some rm
  | .fnmaddD _ _ _ _ rm => some rm
  | .fcvtWD _ _ rm => some rm
  | .fcvtWuD _ _ rm => some rm
  | .fcvtLD _ _ rm => some rm
  | .fcvtLuD _ _ rm => some rm
  | .fcvtDW _ _ rm => some rm
  | .fcvtDWu _ _ rm => some rm
  | .fcvtDL _ _ rm => some rm
  | .fcvtDLu _ _ rm => some rm
  | .fcvtSD _ _ rm => some rm
  | .fcvtDS _ _ rm => some rm
  | .fsgnjD _ _ _ => none
  | .fsgnjnD _ _ _ => none
  | .fsgnjxD _ _ _ => none
  | .fmvXD _ _ => none
  | .fmvDX _ _ => none
  | .feqD _ _ _ => none
  | .fltD _ _ _ => none
  | .fleD _ _ _ => none
  | .fclassD _ _ => none
  | .flq _ _ _ => none
  | .fsq _ _ _ => none
  | .faddQ _ _ _ rm => some rm
  | .fsubQ _ _ _ rm => some rm
  | .fmulQ _ _ _ rm => some rm
  | .fdivQ _ _ _ rm => some rm
  | .fsqrtQ _ _ rm => some rm
  | .fminQ _ _ _ => none
  | .fmaxQ _ _ _ => none
  | .fmaddQ _ _ _ _ rm => some rm
  | .fmsubQ _ _ _ _ rm => some rm
  | .fnmsubQ _ _ _ _ rm => some rm
  | .fnmaddQ _ _ _ _ rm => some rm
  | .fcvtWQ _ _ rm => some rm
  | .fcvtWuQ _ _ rm => some rm
  | .fcvtLQ _ _ rm => some rm
  | .fcvtLuQ _ _ rm => some rm
  | .fcvtQW _ _ rm => some rm
  | .fcvtQWu _ _ rm => some rm
  | .fcvtQL _ _ rm => some rm
  | .fcvtQLu _ _ rm => some rm
  | .fcvtSQ _ _ rm => some rm
  | .fcvtQS _ _ rm => some rm
  | .fcvtDQ _ _ rm => some rm
  | .fcvtQD _ _ rm => some rm
  | .fsgnjQ _ _ _ => none
  | .fsgnjnQ _ _ _ => none
  | .fsgnjxQ _ _ _ => none
  | .feqQ _ _ _ => none
  | .fltQ _ _ _ => none
  | .fleQ _ _ _ => none
  | .fclassQ _ _ => none
  | .flh _ _ _ => none
  | .fsh _ _ _ => none
  | .faddH _ _ _ rm => some rm
  | .fsubH _ _ _ rm => some rm
  | .fmulH _ _ _ rm => some rm
  | .fdivH _ _ _ rm => some rm
  | .fsqrtH _ _ rm => some rm
  | .fminH _ _ _ => none
  | .fmaxH _ _ _ => none
  | .fmaddH _ _ _ _ rm => some rm
  | .fmsubH _ _ _ _ rm => some rm
  | .fnmsubH _ _ _ _ rm => some rm
  | .fnmaddH _ _ _ _ rm => some rm
  | .fcvtWH _ _ rm => some rm
  | .fcvtWuH _ _ rm => some rm
  | .fcvtLH _ _ rm => some rm
  | .fcvtLuH _ _ rm => some rm
  | .fcvtHW _ _ rm => some rm
  | .fcvtHWu _ _ rm => some rm
  | .fcvtHL _ _ rm => some rm
  | .fcvtHLu _ _ rm => some rm
  | .fcvtSH _ _ rm => some rm
  | .fcvtHS _ _ rm => some rm
  | .fcvtDH _ _ rm => some rm
  | .fcvtHD _ _ rm => some rm
  | .fcvtQH _ _ rm => some rm
  | .fcvtHQ _ _ rm => some rm
  | .fsgnjH _ _ _ => none
  | .fsgnjnH _ _ _ => none
  | .fsgnjxH _ _ _ => none
  | .fmvXH _ _ => none
  | .fmvHX _ _ => none
  | .feqH _ _ _ => none
  | .fltH _ _ _ => none
  | .fleH _ _ _ => none
  | .fclassH _ _ => none
  | .fliS _ _ => none
  | .fliD _ _ => none
  | .fliH _ _ => none
  | .fliQ _ _ => none
  | .fminmS _ _ _ => none
  | .fmaxmS _ _ _ => none
  | .fminmD _ _ _ => none
  | .fmaxmD _ _ _ => none
  | .fminmH _ _ _ => none
  | .fmaxmH _ _ _ => none
  | .fminmQ _ _ _ => none
  | .fmaxmQ _ _ _ => none
  | .froundS _ _ rm => some rm
  | .froundnxS _ _ rm => some rm
  | .froundD _ _ rm => some rm
  | .froundnxD _ _ rm => some rm
  | .froundH _ _ rm => some rm
  | .froundnxH _ _ rm => some rm
  | .froundQ _ _ rm => some rm
  | .froundnxQ _ _ rm => some rm
  | .fcvtmodWD _ _ => none
  | .fmvhXD _ _ => none
  | .fmvpDX _ _ _ => none
  | .fmvhXQ _ _ => none
  | .fmvpQX _ _ _ => none
  | .fleqS _ _ _ => none
  | .fltqS _ _ _ => none
  | .fleqD _ _ _ => none
  | .fltqD _ _ _ => none
  | .fleqH _ _ _ => none
  | .fltqH _ _ _ => none
  | .fleqQ _ _ _ => none
  | .fltqQ _ _ _ => none
  | .fcvtBf16S _ _ rm => some rm
  | .fcvtSBf16 _ _ rm => some rm
  | .csrrw _ _ _ => none
  | .csrrs _ _ _ => none
  | .csrrc _ _ _ => none
  | .csrrwi _ _ _ => none
  | .csrrsi _ _ _ => none
  | .csrrci _ _ _ => none

end Sys2Proof
end

