-- ==== Sys2Proof/Config.lean ====
section
/-!
DEFINITION. The configuration and the launch parameters of 00_scope.md R5, as plain data. The source leaves no value
open (40_fp_common.md R168), so there is no free value here: what an implementation fixes is `Config`, which the
State carries unchanged.
-/

namespace Sys2Proof

/-- XLEN (00_scope.md R5). The source's third width, 128, has no constructor: a launch that asks for it is refused
(92_eei_decisions.md D1), see `Sys2Proof.Machine.launch`. -/
inductive Xlen
  | rv32
  | rv64
deriving DecidableEq, Repr

/-- The members `EXT` can have (00_scope.md R5). -/
inductive Ext
  | f | d | q | zfh | zfhmin | zfa | zfbfmin
  | zfinx | zdinx | zhinx | zhinxmin
  | zvfh
deriving DecidableEq, Repr

/-- `EXT`, one flag per member (00_scope.md R5). Zvfh is a flag with one effect, enabling FLI.H (45_zfa.md R403). -/
structure ExtSet where
  f        : Bool := false
  d        : Bool := false
  q        : Bool := false
  zfh      : Bool := false
  zfhmin   : Bool := false
  zfa      : Bool := false
  zfbfmin  : Bool := false
  zfinx    : Bool := false
  zdinx    : Bool := false
  zhinx    : Bool := false
  zhinxmin : Bool := false
  zvfh     : Bool := false
deriving DecidableEq, Repr

/-- `MISALIGNED` (20_memory.md R66): what a misaligned floating-point load or store does. -/
inductive Misaligned
  /-- the access raises an address-misaligned exception (the default) -/
  | trap
  /-- the access is performed byte by byte -/
  | invisible
deriving DecidableEq, Repr

/-- A range of byte addresses `[base, base + size)` that lies in the domain of `MEM` (20_memory.md R61). -/
structure Region where
  base : Nat
  size : Nat
deriving DecidableEq, Repr

/-- The parameters of 00_scope.md R5 that stay fixed during a run: XLEN, EXT, MISALIGNED, the premise FS_ON, the
domain of MEM and the program text `[progBase, progEnd)` of 60_exceptions.md R529. -/
structure Config where
  xlen       : Xlen
  ext        : ExtSet
  misaligned : Misaligned
  /-- FS_ON: `mstatus.FS` is not Off (10_state.md R35). -/
  fsOn       : Bool
  /-- The domain of MEM: a byte exists exactly when some region holds its address (20_memory.md R61). -/
  regions    : List Region
  progBase   : Nat
  progEnd    : Nat
deriving DecidableEq, Repr

end Sys2Proof
end

