-- ==== Sys2Proof/Machine/State.lean ====
section
/-!
DEFINITION. The machine's state as plain data (10_state.md: the x registers, the pc, the f registers, fcsr and memory),
the reasons a step can stop, and the state after reset.
-/

namespace Sys2Proof.Machine

/-- The architectural exceptions of 60_exceptions.md R510, each with the value it carries. An address stands in its
64-bit container. -/
inductive Exception
  /-- code 0, the pc; raised by nothing in scope (R520) -/
  | instructionAddressMisaligned (pc : XWord)
  /-- code 1, the pc: the fetch of an instruction whose four bytes are not all in MEM (R520) -/
  | instructionAccessFault (pc : XWord)
  /-- code 2, the instruction word (R515) -/
  | illegalInstruction (word : Word)
  /-- code 4, the effective address of a load (R511) -/
  | loadAddressMisaligned (ea : XWord)
  /-- code 5, the effective address of a load (R513) -/
  | loadAccessFault (ea : XWord)
  /-- code 6, the effective address of a store (R512) -/
  | storeAddressMisaligned (ea : XWord)
  /-- code 7, the effective address of a store (R514) -/
  | storeAccessFault (ea : XWord)
deriving DecidableEq, Repr

/-- Why the machine stops with a fault. -/
inductive Fault
  /-- `Trap(E, info, pc)` of 60_exceptions.md R517: an instruction, or the fetch of one, raised `e` at `pc`, and the
  state is the one before the step. Raised by `Machine.raise`. Safe: a hart with a handler goes on where the model
  stops (92_eei_decisions.md D7). -/
  | trap (e : Exception) (pc : XWord)
deriving DecidableEq, Repr

/-- Why the model gives a step, or a launch, no meaning. -/
inductive Refusal
  /-- An instruction that has no meaning yet, by its mnemonic. Raised by the arms of `exec` that refuse: none does.
  Safe. -/
  | notModelled (mnemonic : String)
  /-- A word under a major opcode outside the spec, or a SYSTEM word that is no CSR access (48_csr_access.md R499,
  60_exceptions.md R529). Raised by `step`. Safe: nothing is claimed of the word. -/
  | outOfScopeWord (word : Word)
  /-- A CSR access to a number other than 0x001, 0x002 and 0x003 (48_csr_access.md R499). Raised by the six CSR
  meanings. Safe. -/
  | csrOutOfScope (csr : BitVec 12)
  /-- A store that would write a byte of the program text (20_memory.md R74). Raised by the four stores. Safe. -/
  | storeToProgramText (ea : XWord)
  /-- The configuration breaks 00_scope.md R3 or R4, or the program text is no range of words (60_exceptions.md
  R529). Raised by `step` and `launch`. Safe. -/
  | illFormedConfig
  /-- The pc is no multiple of 4 (20_memory.md R67). Raised by `step` and `launch`. Safe. -/
  | misalignedPc (pc : XWord)
  /-- A launch with an XLEN other than 32 or 64 (92_eei_decisions.md D1). Raised by `launch`. Safe. -/
  | unsupportedXlen (xlen : Nat)
  /-- A launch whose program text is not all in MEM, or whose pc is outside it (60_exceptions.md R529). Raised by
  `launch`. Safe. -/
  | textOutsideMemory
deriving DecidableEq, Repr

/-- The state of the hart. -/
structure State where
  /-- The launch parameters of 00_scope.md R5; no instruction writes them. -/
  cfg    : Config
  /-- x0 to x31 (10_state.md R20), each in a 64-bit container; every read and write goes through `readX`, `writeX`. -/
  x      : Vector XWord 32
  /-- f0 to f31 (10_state.md R24), each in a 128-bit container; every read and write goes through `readF`, `writeF`. -/
  f      : Vector FWord 32
  /-- The pc (10_state.md R22). -/
  pc     : XWord
  /-- fcsr bits 7:5 (10_state.md R28). -/
  frm    : BitVec 3
  /-- fcsr bits 4:0 (10_state.md R29). -/
  fflags : FlagSet
  /-- Memory: address and byte, addresses strictly rising, no entry equal to what an unlisted byte of MEM reads as. -/
  mem    : List Host.Cell
deriving DecidableEq, Repr

/-- The extensions of the reset configuration: the whole f-register family (DESIGN CHOICE, log 3). -/
def resetExt : ExtSet :=
  { f := true, d := true, q := true, zfh := true, zfhmin := true, zfa := true, zfbfmin := true, zvfh := true }

/-- The reset configuration (DESIGN CHOICE, log 3; `misaligned` is the default of 20_memory.md R66): every address
exists and the program text is empty, since a program is placed by the launch (log 7). -/
def resetConfig : Config :=
  { xlen := .rv64, ext := resetExt, misaligned := .trap, fsOn := true,
    regions := [⟨0, 2 ^ 64⟩], progBase := 0, progEnd := 0 }

/-- The machine right after reset. The spec gives a reset value to x0 alone (10_state.md R37): every other value is
the model's (DESIGN CHOICE, logs 1, 2 and 3). -/
def State.reset : State :=
  { cfg := resetConfig, x := Vector.replicate 32 0, f := Vector.replicate 32 0, pc := 0, frm := 0, fflags := 0,
    mem := [] }

end Sys2Proof.Machine
end

