-- ==== Sys2Proof/Machine/Ops.lean ====
section
/-!
DEFINITION. The named operations over the registers, fcsr, the pc and memory (10_state.md, 20_memory.md), the access
to the three CSRs (48_csr_access.md R490), and the one operation that raises an exception (60_exceptions.md R516,
R517). This spec has no trap entry and no return from one (R522, R523), so there is no operation for either.
-/

namespace Sys2Proof.Machine

/-! ## The configuration -/

/-- XLEN (00_scope.md R5). -/
def xlenBits : Xlen → Nat
  | .rv32 => 32
  | .rv64 => 64

/-- XLEN of a state's configuration. -/
def State.xlen (s : State) : Nat := xlenBits s.cfg.xlen

/-- Whether an extension is in EXT; Zfh implies Zfhmin and Zhinx implies Zhinxmin (00_scope.md R3). -/
def hasExt (e : ExtSet) : Ext → Bool
  | .f => e.f
  | .d => e.d
  | .q => e.q
  | .zfh => e.zfh
  | .zfhmin => e.zfhmin || e.zfh
  | .zfa => e.zfa
  | .zfbfmin => e.zfbfmin
  | .zfinx => e.zfinx
  | .zdinx => e.zdinx
  | .zhinx => e.zhinx
  | .zhinxmin => e.zhinxmin || e.zhinx
  | .zvfh => e.zvfh

/-- Whether the operands stand in x registers (10_state.md R26). -/
def State.inX (s : State) : Bool := s.cfg.ext.zfinx

/-- FLEN: 128 with Q, else 64 with D, else 32 (10_state.md R24). Under Zfinx it is not defined (R26) and nothing
reads it. -/
def State.flen (s : State) : Nat := if s.cfg.ext.q then 128 else if s.cfg.ext.d then 64 else 32

/-- Whether floating-point instructions and fcsr accesses are enabled: under Zfinx always (10_state.md R34), else by
FS_ON (R35). -/
def State.fpEnabled (s : State) : Bool := s.inX || s.cfg.fsOn

/-- `mstatus.FS` as far as this spec speaks of it: hard-wired to 0 under Zfinx (10_state.md R34), else known only to
be Off (0) or not (R35). -/
def State.fsIsZero (s : State) : Bool := s.inX || !s.cfg.fsOn

/-- A `misa` bit F, D or Q: hard-wired to 0 under Zfinx (10_state.md R34); else whether the extension is implemented
(PRESUMED, log 5). No instruction in scope reads it. -/
def State.misaBit (s : State) (e : Ext) : Bool := !s.inX && hasExt s.cfg.ext e

/-- The low XLEN bits of a container, zero-extended: `trunc_XLEN` (00_scope.md R9). -/
def State.trunc (s : State) (v : XWord) : XWord := (v.setWidth s.xlen).setWidth 64

/-- The low FLEN bits of a container, zero-extended. -/
def State.truncF (s : State) (v : FWord) : FWord := (v.setWidth s.flen).setWidth 128

/-! ## Registers -/

/-- `x[r]`: x0 reads as zero (10_state.md R21). -/
def State.readX (s : State) (r : Reg) : XWord := if r = 0 then 0 else s.trunc s.x[r.toNat]

/-- `x[r] <- v`: the low XLEN bits are stored, and a write of x0 does nothing (10_state.md R21). -/
def State.writeX (s : State) (r : Reg) (v : XWord) : State :=
  if r = 0 then s else { s with x := s.x.set r.toNat (s.trunc v) }

/-- `f[r]`, the raw FLEN bits (10_state.md R24). -/
def State.readF (s : State) (r : Reg) : FWord := s.truncF s.f[r.toNat]

/-- `f[r] <- v`: all FLEN bits are replaced (10_state.md R24). -/
def State.writeF (s : State) (r : Reg) (v : FWord) : State := { s with f := s.f.set r.toNat (s.truncF v) }

/-- `fflags <- fflags | fl` (10_state.md R30, 40_fp_common.md R147). -/
def State.accrue (s : State) (fl : FlagSet) : State := { s with fflags := s.fflags ||| fl }

/-- The end of every instruction that completes: `pc <- trunc_XLEN(pc + 4)` (10_state.md R23). -/
def State.retire (s : State) : State := { s with pc := s.trunc (s.pc + 4) }

/-! ## The floating-point CSRs (10_state.md R27 to R32, 48_csr_access.md R490) -/

/-- The three CSRs. -/
inductive Csr
  | fflags | frm | fcsr
deriving DecidableEq, Repr

/-- The CSR a number names, if it is in scope (10_state.md R32). -/
def csrOf (n : BitVec 12) : Option Csr :=
  if n = 0x001#12 then some .fflags
  else if n = 0x002#12 then some .frm
  else if n = 0x003#12 then some .fcsr
  else none

/-- fcsr as one 32-bit register: bits 31:8 read as zero (10_state.md R27, R31). -/
def State.fcsr (s : State) : BitVec 32 := 0#24 ++ (s.frm ++ s.fflags)

/-- `csr_read(c)` (48_csr_access.md R490). -/
def State.readCsr (s : State) : Csr → XWord
  | .fflags => s.fflags.setWidth 64
  | .frm => s.frm.setWidth 64
  | .fcsr => s.fcsr.setWidth 64

/-- `csr_write(c, v)`: bits above the field are dropped (48_csr_access.md R490; 10_state.md R28, R31). -/
def State.writeCsr (s : State) (c : Csr) (v : XWord) : State :=
  match c with
  | .fflags => { s with fflags := v.extractLsb' 0 5 }
  | .frm => { s with frm := v.extractLsb' 0 3 }
  | .fcsr => { s with frm := v.extractLsb' 5 3, fflags := v.extractLsb' 0 5 }

/-! ## Memory -/

/-- Whether a range holds an address. -/
def inRegion (r : Region) (a : Nat) : Bool := decide (r.base ≤ a) && decide (a < r.base + r.size)

/-- Whether a byte exists: its address lies in the address space and in the domain of MEM (20_memory.md R60, R61). -/
def State.mapped (s : State) (a : Nat) : Bool :=
  decide (a < 2 ^ s.xlen) && s.cfg.regions.any (fun r => inRegion r a)

/-- What a byte of MEM's domain reads as while nothing is listed for it (DESIGN CHOICE, log 2). -/
def unlistedByte : Byte := 0#8

/-- The byte at an address, from the list of the bytes that differ from `unlistedByte`. -/
def memRead : List Host.Cell → Nat → Byte
  | [], _ => unlistedByte
  | (b, v) :: rest, a => if b = a then v else memRead rest a

/-- The list with one byte replaced; it stays strictly rising and lists no `unlistedByte`. -/
def memWrite : List Host.Cell → Nat → Byte → List Host.Cell
  | [], a, v => if v = unlistedByte then [] else [(a, v)]
  | (b, u) :: rest, a, v =>
    if a < b then (if v = unlistedByte then (b, u) :: rest else (a, v) :: (b, u) :: rest)
    else if a = b then (if v = unlistedByte then rest else (a, v) :: rest)
    else (b, u) :: memWrite rest a v

/-- The canonical form: every address above `lo`, strictly rising, no byte equal to `unlistedByte`. -/
def memWfFrom : Nat → List Host.Cell → Bool
  | _, [] => true
  | lo, (a, v) :: rest => decide (lo ≤ a) && v != unlistedByte && memWfFrom (a + 1) rest

/-- The canonical form of a memory. -/
def Memory.wf (m : List Host.Cell) : Bool := memWfFrom 0 m

/-- The address of byte `k` of an access at `ea`: `trunc_XLEN(ea + k)` (20_memory.md R62). -/
def State.byteAddr (s : State) (ea : XWord) (k : Nat) : Nat := (s.trunc (ea + BitVec.ofNat 64 k)).toNat

/-- `MemRead(ea, n)`: bits 8k+7:8k are the byte at `trunc_XLEN(ea + k)` (20_memory.md R62); n is at most 16. -/
def State.loadBytes (s : State) (ea : XWord) : Nat → FWord
  | 0 => 0
  | n + 1 => s.loadBytes ea n ||| (memRead s.mem (s.byteAddr ea n)).setWidth 128 <<< (8 * n)

/-- The list of memory after `MemWrite(ea, n, v)` (20_memory.md R62). -/
def State.storedBytes (s : State) (ea : XWord) (v : FWord) : Nat → List Host.Cell
  | 0 => s.mem
  | n + 1 => memWrite (s.storedBytes ea v n) (s.byteAddr ea n) (v.extractLsb' (8 * n) 8)

/-- `MemWrite(ea, n, v)` (20_memory.md R62). -/
def State.storeBytes (s : State) (ea : XWord) (n : Nat) (v : FWord) : State := { s with mem := s.storedBytes ea v n }

/-- Whether every byte of an access exists (20_memory.md R68). -/
def State.allMapped (s : State) (ea : XWord) (n : Nat) : Bool :=
  (List.range n).all (fun k => s.mapped (s.byteAddr ea k))

/-- Whether some byte of an access lies in the program text (20_memory.md R74). -/
def State.touchesText (s : State) (ea : XWord) (n : Nat) : Bool :=
  (List.range n).any (fun k => decide (s.cfg.progBase ≤ s.byteAddr ea k) && decide (s.byteAddr ea k < s.cfg.progEnd))

/-- `ea = trunc_XLEN(x[rs1] + sext_XLEN(imm12))` (20_memory.md R63). -/
def State.effAddr (s : State) (rs1 : Reg) (imm : BitVec 12) : XWord :=
  s.trunc (s.readX rs1 + imm.signExtend 64)

/-- Whether an access of n bytes raises for its alignment (20_memory.md R66). -/
def State.misalignedTrap (s : State) (ea : XWord) (n : Nat) : Bool :=
  s.cfg.misaligned == .trap && ea.toNat % n != 0

/-! ## Raising an exception -/

/-- The cause codes (60_exceptions.md R510); no instruction in scope reads one. -/
def Exception.code : Exception → Nat
  | .instructionAddressMisaligned _ => 0
  | .instructionAccessFault _ => 1
  | .illegalInstruction _ => 2
  | .loadAddressMisaligned _ => 4
  | .loadAccessFault _ => 5
  | .storeAddressMisaligned _ => 6
  | .storeAccessFault _ => 7

/-- The value an exception carries, the instruction word zero-extended (60_exceptions.md R510, R515). -/
def Exception.info : Exception → XWord
  | .instructionAddressMisaligned pc => pc
  | .instructionAccessFault pc => pc
  | .illegalInstruction w => w.setWidth 64
  | .loadAddressMisaligned ea => ea
  | .loadAccessFault ea => ea
  | .storeAddressMisaligned ea => ea
  | .storeAccessFault ea => ea

/-- What a step answers. -/
abbrev Outcome := Host.Outcome State Fault Refusal

/-- `raise E(info)`: the instruction makes no write and the run ends with `Trap(E, info, pc)` (60_exceptions.md R516,
R517). The spec names no saved register, no vector and no handler, so there is no next state. -/
def raise (e : Exception) (s : State) : Outcome := .fault (.trap e s.pc)

end Sys2Proof.Machine
end

