-- ==== Sys2Proof/Machine/Operands.lean ====
section
/-!
DEFINITION. Every operand form: NaN-boxed values of f registers, sign-extended values and pairs of x registers
(40_fp_common.md R137 to R142), and the resolution of the rounding mode (R143).
-/

namespace Sys2Proof.Machine

/-- `box(v)`: ones above a narrower result (R137). -/
def box (flen : Nat) (fmt : Fmt) (v : Bits fmt) : FWord := (BitVec.allOnes (flen - fmt.width) ++ v).setWidth 128

/-- Whether all bits from the format's width up to FLEN are 1 (R138). -/
def isBoxed (flen : Nat) (fmt : Fmt) (r : FWord) : Bool :=
  r.extractLsb' fmt.width (flen - fmt.width) == BitVec.allOnes (flen - fmt.width)

/-- `unbox(fmt, r)`: the low bits of a boxed value, the canonical NaN for any other (R138). -/
def unbox (flen : Nat) (fmt : Fmt) (r : FWord) : Bits fmt :=
  if isBoxed flen fmt r then r.setWidth fmt.width else cnan fmt

/-- The double of an aligned pair of RV32 x registers, the even one low; x0 gives zero without x1 (R142). -/
def State.readPair (s : State) (r : Reg) : BitVec 64 :=
  if r = 0 then 0 else (s.readX (r + 1)).setWidth 32 ++ (s.readX r).setWidth 32

/-- The write of a double to an aligned pair; a write to x0 writes neither register (R142). -/
def State.writePair (s : State) (r : Reg) (v : BitVec 64) : State :=
  if r = 0 then s
  else (s.writeX r ((v.extractLsb' 0 32).setWidth 64)).writeX (r + 1) ((v.extractLsb' 32 32).setWidth 64)

/-- `FR_fmt(r)` (R139): unboxed from an f register; under Zfinx the low bits of an x register (R141) or a pair
(R142). -/
def State.readFp (s : State) (fmt : Fmt) (r : Reg) : Bits fmt :=
  if s.inX then
    if fmt.width ≤ s.xlen then (s.readX r).setWidth fmt.width else (s.readPair r).setWidth fmt.width
  else unbox s.flen fmt (s.readF r)

/-- `FW_fmt(r, v)` (R140): boxed into an f register; under Zfinx sign-extended into an x register (R141) or split
over a pair (R142). -/
def State.writeFp (s : State) (fmt : Fmt) (r : Reg) (v : Bits fmt) : State :=
  if s.inX then
    if fmt.width ≤ s.xlen then s.writeX r (v.signExtend 64) else s.writePair r (v.setWidth 64)
  else s.writeF r (box s.flen fmt v)

/-- The mode a 3-bit code selects; 101, 110 and 111 select none (R143). -/
def modeOf (c : BitVec 3) : Option Mode :=
  if c = 0b000#3 then some .rne
  else if c = 0b001#3 then some .rtz
  else if c = 0b010#3 then some .rdn
  else if c = 0b011#3 then some .rup
  else if c = 0b100#3 then some .rmm
  else none

/-- `RM(rm)`: static, or dynamic through frm when rm is 111; none where R143 raises. -/
def State.resolveMode (s : State) (rm : BitVec 3) : Option Mode := if rm = 0b111#3 then modeOf s.frm else modeOf rm

/-- The integer an integer-to-float conversion takes from `x[r]` (R162). -/
def State.readInt (s : State) (t : IntFmt) (r : Reg) : Int := t.read ((s.readX r).setWidth t.width)

/-- `x[r] <- sext_XLEN(trunc_N(n))`, for the unsigned formats too (R161). -/
def State.writeInt (s : State) (t : IntFmt) (r : Reg) (n : Int) : State :=
  s.writeX r ((BitVec.ofInt t.width n).signExtend 64)

end Sys2Proof.Machine
end

