-- ==== Sys2Proof/Machine/Legality.lean ====
section
/-!
DEFINITION. The decode checks that depend on the configuration and on frm, in the order of 30_encoding.md R106, and
the two operations that make them in front of an instruction's effect. Every check that fails raises
`IllegalInstruction(I)` (60_exceptions.md R515), so their order shows only in which one is meant.
-/

namespace Sys2Proof.Machine

/-- What a row of the opcode table asks of the configuration. -/
structure Conditions where
  /-- one of these sets must be in EXT (R106 check 2) -/
  ext   : List (List Ext)
  /-- the one XLEN the row exists for, if it exists for one only (R110) -/
  xlen  : Option Xlen
  /-- the register fields that name a double: even on RV32 with Zdinx (R111) -/
  pairs : List Reg
deriving DecidableEq, Repr

/-- A row that exists for both XLENs. -/
def needs (ext : List (List Ext)) (pairs : List Reg := []) : Conditions := ⟨ext, none, pairs⟩

/-- A row that exists on RV64 only (R110). -/
def needs64 (ext : List (List Ext)) (pairs : List Reg := []) : Conditions := ⟨ext, some .rv64, pairs⟩

/-- A row that exists on RV32 only (R110). -/
def needs32 (ext : List (List Ext)) (pairs : List Reg := []) : Conditions := ⟨ext, some .rv32, pairs⟩

/-- The conditions of each row of spec/opcode_table.json. -/
def conditions : Instr → Conditions
  | .flw _ _ _ => needs [[.f]]
  | .fsw _ _ _ => needs [[.f]]
  | .faddS _ _ _ _ => needs [[.f], [.zfinx]]
  | .fsubS _ _ _ _ => needs [[.f], [.zfinx]]
  | .fmulS _ _ _ _ => needs [[.f], [.zfinx]]
  | .fdivS _ _ _ _ => needs [[.f], [.zfinx]]
  | .fsqrtS _ _ _ => needs [[.f], [.zfinx]]
  | .fminS _ _ _ => needs [[.f], [.zfinx]]
  | .fmaxS _ _ _ => needs [[.f], [.zfinx]]
  | .fmaddS _ _ _ _ _ => needs [[.f], [.zfinx]]
  | .fmsubS _ _ _ _ _ => needs [[.f], [.zfinx]]
  | .fnmsubS _ _ _ _ _ => needs [[.f], [.zfinx]]
  | .fnmaddS _ _ _ _ _ => needs [[.f], [.zfinx]]
  | .fcvtWS _ _ _ => needs [[.f], [.zfinx]]
  | .fcvtWuS _ _ _ => needs [[.f], [.zfinx]]
  | .fcvtLS _ _ _ => needs64 [[.f], [.zfinx]]
  | .fcvtLuS _ _ _ => needs64 [[.f], [.zfinx]]
  | .fcvtSW _ _ _ => needs [[.f], [.zfinx]]
  | .fcvtSWu _ _ _ => needs [[.f], [.zfinx]]
  | .fcvtSL _ _ _ => needs64 [[.f], [.zfinx]]
  | .fcvtSLu _ _ _ => needs64 [[.f], [.zfinx]]
  | .fsgnjS _ _ _ => needs [[.f], [.zfinx]]
  | .fsgnjnS _ _ _ => needs [[.f], [.zfinx]]
  | .fsgnjxS _ _ _ => needs [[.f], [.zfinx]]
  | .fmvXW _ _ => needs [[.f]]
  | .fmvWX _ _ => needs [[.f]]
  | .feqS _ _ _ => needs [[.f], [.zfinx]]
  | .fltS _ _ _ => needs [[.f], [.zfinx]]
  | .fleS _ _ _ => needs [[.f], [.zfinx]]
  | .fclassS _ _ => needs [[.f], [.zfinx]]
  | .fld _ _ _ => needs [[.d]]
  | .fsd _ _ _ => needs [[.d]]
  | .faddD rd rs1 rs2 _ => needs [[.d], [.zdinx]] [rd, rs1, rs2]
  | .fsubD rd rs1 rs2 _ => needs [[.d], [.zdinx]] [rd, rs1, rs2]
  | .fmulD rd rs1 rs2 _ => needs [[.d], [.zdinx]] [rd, rs1, rs2]
  | .fdivD rd rs1 rs2 _ => needs [[.d], [.zdinx]] [rd, rs1, rs2]
  | .fsqrtD rd rs1 _ => needs [[.d], [.zdinx]] [rd, rs1]
  | .fminD rd rs1 rs2 => needs [[.d], [.zdinx]] [rd, rs1, rs2]
  | .fmaxD rd rs1 rs2 => needs [[.d], [.zdinx]] [rd, rs1, rs2]
  | .fmaddD rd rs1 rs2 rs3 _ => needs [[.d], [.zdinx]] [rd, rs1, rs2, rs3]
  | .fmsubD rd rs1 rs2 rs3 _ => needs [[.d], [.zdinx]] [rd, rs1, rs2, rs3]
  | .fnmsubD rd rs1 rs2 rs3 _ => needs [[.d], [.zdinx]] [rd, rs1, rs2, rs3]
  | .fnmaddD rd rs1 rs2 rs3 _ => needs [[.d], [.zdinx]] [rd, rs1, rs2, rs3]
  | .fcvtWD _ rs1 _ => needs [[.d], [.zdinx]] [rs1]
  | .fcvtWuD _ rs1 _ => needs [[.d], [.zdinx]] [rs1]
  | .fcvtLD _ rs1 _ => needs64 [[.d], [.zdinx]] [rs1]
  | .fcvtLuD _ rs1 _ => needs64 [[.d], [.zdinx]] [rs1]
  | .fcvtDW rd _ _ => needs [[.d], [.zdinx]] [rd]
  | .fcvtDWu rd _ _ => needs [[.d], [.zdinx]] [rd]
  | .fcvtDL rd _ _ => needs64 [[.d], [.zdinx]] [rd]
  | .fcvtDLu rd _ _ => needs64 [[.d], [.zdinx]] [rd]
  | .fcvtSD _ rs1 _ => needs [[.d], [.zdinx]] [rs1]
  | .fcvtDS rd _ _ => needs [[.d], [.zdinx]] [rd]
  | .fsgnjD rd rs1 rs2 => needs [[.d], [.zdinx]] [rd, rs1, rs2]
  | .fsgnjnD rd rs1 rs2 => needs [[.d], [.zdinx]] [rd, rs1, rs2]
  | .fsgnjxD rd rs1 rs2 => needs [[.d], [.zdinx]] [rd, rs1, rs2]
  | .fmvXD _ _ => needs64 [[.d]]
  | .fmvDX _ _ => needs64 [[.d]]
  | .feqD _ rs1 rs2 => needs [[.d], [.zdinx]] [rs1, rs2]
  | .fltD _ rs1 rs2 => needs [[.d], [.zdinx]] [rs1, rs2]
  | .fleD _ rs1 rs2 => needs [[.d], [.zdinx]] [rs1, rs2]
  | .fclassD _ rs1 => needs [[.d], [.zdinx]] [rs1]
  | .flq _ _ _ => needs [[.q]]
  | .fsq _ _ _ => needs [[.q]]
  | .faddQ _ _ _ _ => needs [[.q]]
  | .fsubQ _ _ _ _ => needs [[.q]]
  | .fmulQ _ _ _ _ => needs [[.q]]
  | .fdivQ _ _ _ _ => needs [[.q]]
  | .fsqrtQ _ _ _ => needs [[.q]]
  | .fminQ _ _ _ => needs [[.q]]
  | .fmaxQ _ _ _ => needs [[.q]]
  | .fmaddQ _ _ _ _ _ => needs [[.q]]
  | .fmsubQ _ _ _ _ _ => needs [[.q]]
  | .fnmsubQ _ _ _ _ _ => needs [[.q]]
  | .fnmaddQ _ _ _ _ _ => needs [[.q]]
  | .fcvtWQ _ _ _ => needs [[.q]]
  | .fcvtWuQ _ _ _ => needs [[.q]]
  | .fcvtLQ _ _ _ => needs64 [[.q]]
  | .fcvtLuQ _ _ _ => needs64 [[.q]]
  | .fcvtQW _ _ _ => needs [[.q]]
  | .fcvtQWu _ _ _ => needs [[.q]]
  | .fcvtQL _ _ _ => needs64 [[.q]]
  | .fcvtQLu _ _ _ => needs64 [[.q]]
  | .fcvtSQ _ _ _ => needs [[.q]]
  | .fcvtQS _ _ _ => needs [[.q]]
  | .fcvtDQ _ _ _ => needs [[.q]]
  | .fcvtQD _ _ _ => needs [[.q]]
  | .fsgnjQ _ _ _ => needs [[.q]]
  | .fsgnjnQ _ _ _ => needs [[.q]]
  | .fsgnjxQ _ _ _ => needs [[.q]]
  | .feqQ _ _ _ => needs [[.q]]
  | .fltQ _ _ _ => needs [[.q]]
  | .fleQ _ _ _ => needs [[.q]]
  | .fclassQ _ _ => needs [[.q]]
  | .flh _ _ _ => needs [[.zfh], [.zfhmin], [.zfbfmin]]
  | .fsh _ _ _ => needs [[.zfh], [.zfhmin], [.zfbfmin]]
  | .faddH _ _ _ _ => needs [[.zfh], [.zhinx]]
  | .fsubH _ _ _ _ => needs [[.zfh], [.zhinx]]
  | .fmulH _ _ _ _ => needs [[.zfh], [.zhinx]]
  | .fdivH _ _ _ _ => needs [[.zfh], [.zhinx]]
  | .fsqrtH _ _ _ => needs [[.zfh], [.zhinx]]
  | .fminH _ _ _ => needs [[.zfh], [.zhinx]]
  | .fmaxH _ _ _ => needs [[.zfh], [.zhinx]]
  | .fmaddH _ _ _ _ _ => needs [[.zfh], [.zhinx]]
  | .fmsubH _ _ _ _ _ => needs [[.zfh], [.zhinx]]
  | .fnmsubH _ _ _ _ _ => needs [[.zfh], [.zhinx]]
  | .fnmaddH _ _ _ _ _ => needs [[.zfh], [.zhinx]]
  | .fcvtWH _ _ _ => needs [[.zfh], [.zhinx]]
  | .fcvtWuH _ _ _ => needs [[.zfh], [.zhinx]]
  | .fcvtLH _ _ _ => needs64 [[.zfh], [.zhinx]]
  | .fcvtLuH _ _ _ => needs64 [[.zfh], [.zhinx]]
  | .fcvtHW _ _ _ => needs [[.zfh], [.zhinx]]
  | .fcvtHWu _ _ _ => needs [[.zfh], [.zhinx]]
  | .fcvtHL _ _ _ => needs64 [[.zfh], [.zhinx]]
  | .fcvtHLu _ _ _ => needs64 [[.zfh], [.zhinx]]
  | .fcvtSH _ _ _ => needs [[.zfh], [.zfhmin], [.zhinx], [.zhinxmin]]
  | .fcvtHS _ _ _ => needs [[.zfh], [.zfhmin], [.zhinx], [.zhinxmin]]
  | .fcvtDH rd _ _ => needs [[.zfh, .d], [.zfhmin, .d], [.zhinx, .zdinx], [.zhinxmin, .zdinx]] [rd]
  | .fcvtHD _ rs1 _ => needs [[.zfh, .d], [.zfhmin, .d], [.zhinx, .zdinx], [.zhinxmin, .zdinx]] [rs1]
  | .fcvtQH _ _ _ => needs [[.zfh, .q], [.zfhmin, .q]]
  | .fcvtHQ _ _ _ => needs [[.zfh, .q], [.zfhmin, .q]]
  | .fsgnjH _ _ _ => needs [[.zfh], [.zhinx]]
  | .fsgnjnH _ _ _ => needs [[.zfh], [.zhinx]]
  | .fsgnjxH _ _ _ => needs [[.zfh], [.zhinx]]
  | .fmvXH _ _ => needs [[.zfh], [.zfhmin], [.zfbfmin]]
  | .fmvHX _ _ => needs [[.zfh], [.zfhmin], [.zfbfmin]]
  | .feqH _ _ _ => needs [[.zfh], [.zhinx]]
  | .fltH _ _ _ => needs [[.zfh], [.zhinx]]
  | .fleH _ _ _ => needs [[.zfh], [.zhinx]]
  | .fclassH _ _ => needs [[.zfh], [.zhinx]]
  | .fliS _ _ => needs [[.zfa]]
  | .fliD _ _ => needs [[.zfa, .d]]
  | .fliH _ _ => needs [[.zfa, .zfh], [.zfa, .zvfh]]
  | .fliQ _ _ => needs [[.zfa, .q]]
  | .fminmS _ _ _ => needs [[.zfa]]
  | .fmaxmS _ _ _ => needs [[.zfa]]
  | .fminmD _ _ _ => needs [[.zfa, .d]]
  | .fmaxmD _ _ _ => needs [[.zfa, .d]]
  | .fminmH _ _ _ => needs [[.zfa, .zfh]]
  | .fmaxmH _ _ _ => needs [[.zfa, .zfh]]
  | .fminmQ _ _ _ => needs [[.zfa, .q]]
  | .fmaxmQ _ _ _ => needs [[.zfa, .q]]
  | .froundS _ _ _ => needs [[.zfa]]
  | .froundnxS _ _ _ => needs [[.zfa]]
  | .froundD _ _ _ => needs [[.zfa, .d]]
  | .froundnxD _ _ _ => needs [[.zfa, .d]]
  | .froundH _ _ _ => needs [[.zfa, .zfh]]
  | .froundnxH _ _ _ => needs [[.zfa, .zfh]]
  | .froundQ _ _ _ => needs [[.zfa, .q]]
  | .froundnxQ _ _ _ => needs [[.zfa, .q]]
  | .fcvtmodWD _ _ => needs [[.zfa, .d]]
  | .fmvhXD _ _ => needs32 [[.zfa, .d]]
  | .fmvpDX _ _ _ => needs32 [[.zfa, .d]]
  | .fmvhXQ _ _ => needs64 [[.zfa, .q]]
  | .fmvpQX _ _ _ => needs64 [[.zfa, .q]]
  | .fleqS _ _ _ => needs [[.zfa]]
  | .fltqS _ _ _ => needs [[.zfa]]
  | .fleqD _ _ _ => needs [[.zfa, .d]]
  | .fltqD _ _ _ => needs [[.zfa, .d]]
  | .fleqH _ _ _ => needs [[.zfa, .zfh]]
  | .fltqH _ _ _ => needs [[.zfa, .zfh]]
  | .fleqQ _ _ _ => needs [[.zfa, .q]]
  | .fltqQ _ _ _ => needs [[.zfa, .q]]
  | .fcvtBf16S _ _ _ => needs [[.zfbfmin]]
  | .fcvtSBf16 _ _ _ => needs [[.zfbfmin]]
  | .csrrw _ _ _ => needs [[.f], [.zfinx]]
  | .csrrs _ _ _ => needs [[.f], [.zfinx]]
  | .csrrc _ _ _ => needs [[.f], [.zfinx]]
  | .csrrwi _ _ _ => needs [[.f], [.zfinx]]
  | .csrrsi _ _ _ => needs [[.f], [.zfinx]]
  | .csrrci _ _ _ => needs [[.f], [.zfinx]]

/-- R106 check 2: some set of extensions is all implemented. -/
def Conditions.extHolds (c : Conditions) (e : ExtSet) : Bool := c.ext.any (fun l => l.all (hasExt e))

/-- R106 check 3: the row exists for this XLEN (R110). -/
def Conditions.xlenHolds (c : Conditions) (x : Xlen) : Bool :=
  match c.xlen with
  | none => true
  | some y => x == y

/-- R106 check 4: on RV32 with Zdinx every register that names a double is even (R111). -/
def Conditions.pairsHold (c : Conditions) (cfg : Config) : Bool :=
  !(cfg.xlen == .rv32 && cfg.ext.zdinx) || c.pairs.all (fun r => r.getLsbD 0 == false)

/-- Checks 2 to 4 of R106, behind the enable of 10_state.md R34 and R35. -/
def legal (i : Instr) (s : State) : Bool :=
  s.fpEnabled && (conditions i).extHolds s.cfg.ext && (conditions i).xlenHolds s.cfg.xlen &&
    (conditions i).pairsHold s.cfg

/-- `raise IllegalInstruction(I)` of an instruction, carrying its word (60_exceptions.md R515). -/
def raiseIllegal (i : Instr) (s : State) : Outcome := raise (.illegalInstruction (encode i)) s

/-- An instruction's effect behind checks 2 to 4 of R106. -/
def checked (i : Instr) (s : State) (effect : Outcome) : Outcome := if legal i s then effect else raiseIllegal i s

/-- An instruction's effect behind every check of R106: the last resolves the rounding mode, before any operand is
read (40_fp_common.md R143; 30_encoding.md R108, R109). -/
def rounding (i : Instr) (rm : BitVec 3) (s : State) (effect : Mode → Outcome) : Outcome :=
  checked i s
    (match s.resolveMode rm with
      | some mode => effect mode
      | none => raiseIllegal i s)

end Sys2Proof.Machine
end

