-- ==== Sys2Proof/Machine/Forms.lean ====
section
/-!
DEFINITION. The shapes the meanings share: each reads its operands, computes, writes its result and its flags, and
advances the pc (00_scope.md R8, 10_state.md R23). The meanings of the family files are these shapes, each at one
instruction, format and operation. `i` is the instruction itself, for its checks and for the word an exception
carries.
-/

namespace Sys2Proof.Machine

/-- The completion of an instruction. -/
def complete (s : State) : Outcome := .next s.retire

/-- The completion with a floating-point result and its flags (40_fp_common.md R147). -/
def completeFp (fmt : Fmt) (rd : Reg) (r : Result fmt) (s : State) : Outcome :=
  complete ((s.writeFp fmt rd r.1).accrue r.2)

/-- The completion with an integer result and the flags raised with it. -/
def completeX (rd : Reg) (v : XWord) (fl : FlagSet) (s : State) : Outcome := complete ((s.writeX rd v).accrue fl)

/-! ## Loads and stores (20_memory.md) -/

/-- A load of n bytes, boxed with ones to FLEN (R63 to R68; 60_exceptions.md R519 for the order of the checks). -/
def load (i : Instr) (fmt : Fmt) (rd rs1 : Reg) (imm : BitVec 12) (s : State) : Outcome :=
  checked i s
    (let n := fmt.width / 8
     let ea := s.effAddr rs1 imm
     if s.misalignedTrap ea n then raise (.loadAddressMisaligned ea) s
     else if s.allMapped ea n then complete (s.writeF rd (box s.flen fmt ((s.loadBytes ea n).setWidth fmt.width)))
     else raise (.loadAccessFault ea) s)

/-- A store of the low n bytes, the box unchecked (R63 to R68); a store that would write the program text is refused,
after every check that raises (R74). -/
def store (i : Instr) (fmt : Fmt) (rs2 rs1 : Reg) (imm : BitVec 12) (s : State) : Outcome :=
  checked i s
    (let n := fmt.width / 8
     let ea := s.effAddr rs1 imm
     if s.misalignedTrap ea n then raise (.storeAddressMisaligned ea) s
     else if s.allMapped ea n then
       if s.touchesText ea n then .refused (.storeToProgramText ea)
       else complete (s.storeBytes ea n (s.readF rs2))
     else raise (.storeAccessFault ea) s)

/-! ## Computations -/

/-- A rounded operation of one operand, both sides of one format (FSQRT, FROUND, FROUNDNX). -/
def rounded1 (i : Instr) (fmt : Fmt) (op : Mode → Bits fmt → Result fmt) (rd rs1 : Reg) (rm : BitVec 3)
    (s : State) : Outcome :=
  rounding i rm s fun mode => completeFp fmt rd (op mode (s.readFp fmt rs1)) s

/-- A rounded operation of two operands (FADD, FSUB, FMUL, FDIV). -/
def rounded2 (i : Instr) (fmt : Fmt) (op : Mode → Bits fmt → Bits fmt → Result fmt) (rd rs1 rs2 : Reg)
    (rm : BitVec 3) (s : State) : Outcome :=
  rounding i rm s fun mode => completeFp fmt rd (op mode (s.readFp fmt rs1) (s.readFp fmt rs2)) s

/-- A fused multiply-add (40_fp_common.md R154). -/
def fused (i : Instr) (fmt : Fmt) (negp negc : Bool) (rd rs1 rs2 rs3 : Reg) (rm : BitVec 3) (s : State) : Outcome :=
  rounding i rm s fun mode =>
    completeFp fmt rd (ffma fmt negp negc mode (s.readFp fmt rs1) (s.readFp fmt rs2) (s.readFp fmt rs3)) s

/-- An operation of two operands without an `rm` field (sign injection, minimum, maximum). -/
def unrounded2 (i : Instr) (fmt : Fmt) (op : Bits fmt → Bits fmt → Result fmt) (rd rs1 rs2 : Reg)
    (s : State) : Outcome :=
  checked i s (completeFp fmt rd (op (s.readFp fmt rs1) (s.readFp fmt rs2)) s)

/-- A compare: the bit, zero-extended (40_fp_common.md R158, R159). -/
def compareFp (i : Instr) (fmt : Fmt) (op : CmpOp) (rd rs1 rs2 : Reg) (s : State) : Outcome :=
  checked i s
    (let r := fcmp fmt op (s.readFp fmt rs1) (s.readFp fmt rs2)
     completeX rd ((BitVec.ofBool r.1).setWidth 64) r.2 s)

/-- FCLASS: the mask, zero-extended (40_fp_common.md R160). -/
def classify (i : Instr) (fmt : Fmt) (rd rs1 : Reg) (s : State) : Outcome :=
  checked i s (completeX rd ((fclass fmt (s.readFp fmt rs1)).setWidth 64) noFlags s)

/-! ## Conversions -/

/-- Floating point to integer (40_fp_common.md R161). -/
def fpToInt (i : Instr) (fmt : Fmt) (t : IntFmt) (rd rs1 : Reg) (rm : BitVec 3) (s : State) : Outcome :=
  rounding i rm s fun mode =>
    let r := fcvtInt fmt t mode (s.readFp fmt rs1)
    complete ((s.writeInt t rd r.1).accrue r.2)

/-- Integer to floating point (40_fp_common.md R162). -/
def intToFp (i : Instr) (fmt : Fmt) (t : IntFmt) (rd rs1 : Reg) (rm : BitVec 3) (s : State) : Outcome :=
  rounding i rm s fun mode => completeFp fmt rd (fcvtFp fmt mode (s.readInt t rs1)) s

/-- Floating point to floating point, each side in its own format (40_fp_common.md R163). -/
def fpToFp (i : Instr) (dst src : Fmt) (rd rs1 : Reg) (rm : BitVec 3) (s : State) : Outcome :=
  rounding i rm s fun mode => completeFp dst rd (fcvtFf dst src mode (s.readFp src rs1)) s

/-- FCVTMOD.W.D: the 32-bit pattern, sign-extended (40_fp_common.md R165). -/
def modularConvert (i : Instr) (rd rs1 : Reg) (s : State) : Outcome :=
  checked i s
    (let r := fcvtmod (s.readFp .d rs1)
     completeX rd (r.1.signExtend 64) r.2 s)

/-! ## Moves and constants: no flag, no box check on a source -/

/-- FMV.X.fmt: the raw low bits of an f register, sign-extended. -/
def moveToX (i : Instr) (fmt : Fmt) (rd rs1 : Reg) (s : State) : Outcome :=
  checked i s (complete (s.writeX rd (((s.readF rs1).setWidth fmt.width).signExtend 64)))

/-- FMV.fmt.X: the low bits of an x register, boxed. -/
def moveFromX (i : Instr) (fmt : Fmt) (rd rs1 : Reg) (s : State) : Outcome :=
  checked i s (complete (s.writeF rd (box s.flen fmt ((s.readX rs1).setWidth fmt.width))))

/-- FMVH.X.fmt: the raw upper half of a value of 2n bits, n being XLEN. -/
def moveHighToX (i : Instr) (n : Nat) (rd rs1 : Reg) (s : State) : Outcome :=
  checked i s (complete (s.writeX rd (((s.readF rs1).extractLsb' n n).signExtend 64)))

/-- FMVP.fmt.X: `x[rs2] ++ x[rs1]`, n bits each, boxed. -/
def movePairFromX (i : Instr) (fmt : Fmt) (n : Nat) (rd rs1 rs2 : Reg) (s : State) : Outcome :=
  checked i s
    (complete (s.writeF rd
      (box s.flen fmt (((s.readX rs2).setWidth n ++ (s.readX rs1).setWidth n).setWidth fmt.width))))

/-- FLI: a constant, boxed (40_fp_common.md R166). -/
def loadConstant (i : Instr) (fmt : Fmt) (rd : Reg) (k : BitVec 5) (s : State) : Outcome :=
  checked i s (complete (s.writeF rd (box s.flen fmt (fli fmt k))))

/-! ## CSR accesses (48_csr_access.md) -/

/-- A CSR access: a number out of scope is refused (R499); the three CSRs exist with F or Zfinx (R490). The old value
`t` is read first; `new t` is written when `write` holds; `t` goes to `rd`. -/
def csrAccess (i : Instr) (rd : Reg) (csr : BitVec 12) (write : Bool) (new : XWord → XWord) (s : State) : Outcome :=
  match csrOf csr with
  | none => .refused (.csrOutOfScope csr)
  | some c =>
    checked i s
      (let t := s.readCsr c
       complete ((if write then s.writeCsr c (new t) else s).writeX rd t))

end Sys2Proof.Machine
end

