-- ==== Sys2Proof/Machine/Bfloat.lean ====
section
/-!
DEFINITION. The meanings of Zfbfmin, one definition per row of the opcode
table, from the rule that its docstring names (46_zfbfmin.md).
-/

namespace Sys2Proof.Machine

/-- FCVT.BF16.S (R451). -/
def execFcvtBf16S (rd rs1 : Reg) (rm : BitVec 3) (s : State) : Outcome :=
  fpToFp (.fcvtBf16S rd rs1 rm) .bf16 .s rd rs1 rm s

/-- FCVT.S.BF16 (R452). -/
def execFcvtSBf16 (rd rs1 : Reg) (rm : BitVec 3) (s : State) : Outcome :=
  fpToFp (.fcvtSBf16 rd rs1 rm) .s .bf16 rd rs1 rm s

end Sys2Proof.Machine
end

