-- ==== Sys2Proof/Machine/CsrAccess.lean ====
section
/-!
DEFINITION. The meanings of the six CSR instructions on fflags, frm and fcsr, one definition per row of the opcode
table, from the rule that its docstring names (48_csr_access.md).
-/

namespace Sys2Proof.Machine

/-- CSRRW (R491). With rd = x0 the CSR is not read, which shows nowhere: its read has no side effect. -/
def execCsrrw (rd : Reg) (csr : BitVec 12) (rs1 : Reg) (s : State) : Outcome :=
  csrAccess (.csrrw rd csr rs1) rd csr true (fun _ => s.readX rs1) s

/-- CSRRS (R492). With the rs1 field 0 there is no write. -/
def execCsrrs (rd : Reg) (csr : BitVec 12) (rs1 : Reg) (s : State) : Outcome :=
  csrAccess (.csrrs rd csr rs1) rd csr (rs1 != 0) (fun t => t ||| s.readX rs1) s

/-- CSRRC (R493). With the rs1 field 0 there is no write. -/
def execCsrrc (rd : Reg) (csr : BitVec 12) (rs1 : Reg) (s : State) : Outcome :=
  csrAccess (.csrrc rd csr rs1) rd csr (rs1 != 0) (fun t => t &&& ~~~s.readX rs1) s

/-- CSRRWI (R494). -/
def execCsrrwi (rd : Reg) (csr : BitVec 12) (uimm : BitVec 5) (s : State) : Outcome :=
  csrAccess (.csrrwi rd csr uimm) rd csr true (fun _ => uimm.setWidth 64) s

/-- CSRRSI (R495). With uimm 0 there is no write. -/
def execCsrrsi (rd : Reg) (csr : BitVec 12) (uimm : BitVec 5) (s : State) : Outcome :=
  csrAccess (.csrrsi rd csr uimm) rd csr (uimm != 0) (fun t => t ||| uimm.setWidth 64) s

/-- CSRRCI (R496). With uimm 0 there is no write. -/
def execCsrrci (rd : Reg) (csr : BitVec 12) (uimm : BitVec 5) (s : State) : Outcome :=
  csrAccess (.csrrci rd csr uimm) rd csr (uimm != 0) (fun t => t &&& ~~~uimm.setWidth 64) s

end Sys2Proof.Machine
end

