-- ==== Sys2Proof/Machine/Double.lean ====
section
/-!
DEFINITION. The meanings of the D extension, one definition per row of the opcode
table, from the rule that its docstring names (42_d_double.md, 42_d_double_part2.md).
-/

namespace Sys2Proof.Machine

/-- FLD (R251). -/
def execFld (rd rs1 : Reg) (imm : BitVec 12) (s : State) : Outcome :=
  load (.fld rd rs1 imm) .d rd rs1 imm s

/-- FSD (R252). -/
def execFsd (rs2 rs1 : Reg) (imm : BitVec 12) (s : State) : Outcome :=
  store (.fsd rs2 rs1 imm) .d rs2 rs1 imm s

/-- FADD.D (R253). -/
def execFaddD (rd rs1 rs2 : Reg) (rm : BitVec 3) (s : State) : Outcome :=
  rounded2 (.faddD rd rs1 rs2 rm) .d (fadd .d) rd rs1 rs2 rm s

/-- FSUB.D (R254). -/
def execFsubD (rd rs1 rs2 : Reg) (rm : BitVec 3) (s : State) : Outcome :=
  rounded2 (.fsubD rd rs1 rs2 rm) .d (fsub .d) rd rs1 rs2 rm s

/-- FMUL.D (R255). -/
def execFmulD (rd rs1 rs2 : Reg) (rm : BitVec 3) (s : State) : Outcome :=
  rounded2 (.fmulD rd rs1 rs2 rm) .d (fmul .d) rd rs1 rs2 rm s

/-- FDIV.D (R256). -/
def execFdivD (rd rs1 rs2 : Reg) (rm : BitVec 3) (s : State) : Outcome :=
  rounded2 (.fdivD rd rs1 rs2 rm) .d (fdiv .d) rd rs1 rs2 rm s

/-- FSQRT.D (R257). -/
def execFsqrtD (rd rs1 : Reg) (rm : BitVec 3) (s : State) : Outcome :=
  rounded1 (.fsqrtD rd rs1 rm) .d (fsqrt .d) rd rs1 rm s

/-- FMIN.D (R258). -/
def execFminD (rd rs1 rs2 : Reg) (s : State) : Outcome :=
  unrounded2 (.fminD rd rs1 rs2) .d (fminmax .d false) rd rs1 rs2 s

/-- FMAX.D (R259). -/
def execFmaxD (rd rs1 rs2 : Reg) (s : State) : Outcome :=
  unrounded2 (.fmaxD rd rs1 rs2) .d (fminmax .d true) rd rs1 rs2 s

/-- FMADD.D (R260). -/
def execFmaddD (rd rs1 rs2 rs3 : Reg) (rm : BitVec 3) (s : State) : Outcome :=
  fused (.fmaddD rd rs1 rs2 rs3 rm) .d false false rd rs1 rs2 rs3 rm s

/-- FMSUB.D (R261). -/
def execFmsubD (rd rs1 rs2 rs3 : Reg) (rm : BitVec 3) (s : State) : Outcome :=
  fused (.fmsubD rd rs1 rs2 rs3 rm) .d false true rd rs1 rs2 rs3 rm s

/-- FNMSUB.D (R262). -/
def execFnmsubD (rd rs1 rs2 rs3 : Reg) (rm : BitVec 3) (s : State) : Outcome :=
  fused (.fnmsubD rd rs1 rs2 rs3 rm) .d true false rd rs1 rs2 rs3 rm s

/-- FNMADD.D (R263). -/
def execFnmaddD (rd rs1 rs2 rs3 : Reg) (rm : BitVec 3) (s : State) : Outcome :=
  fused (.fnmaddD rd rs1 rs2 rs3 rm) .d true true rd rs1 rs2 rs3 rm s

/-- FCVT.W.D (R264). -/
def execFcvtWD (rd rs1 : Reg) (rm : BitVec 3) (s : State) : Outcome :=
  fpToInt (.fcvtWD rd rs1 rm) .d .w rd rs1 rm s

/-- FCVT.WU.D (R265). -/
def execFcvtWuD (rd rs1 : Reg) (rm : BitVec 3) (s : State) : Outcome :=
  fpToInt (.fcvtWuD rd rs1 rm) .d .wu rd rs1 rm s

/-- FCVT.L.D (R266). -/
def execFcvtLD (rd rs1 : Reg) (rm : BitVec 3) (s : State) : Outcome :=
  fpToInt (.fcvtLD rd rs1 rm) .d .l rd rs1 rm s

/-- FCVT.LU.D (R267). -/
def execFcvtLuD (rd rs1 : Reg) (rm : BitVec 3) (s : State) : Outcome :=
  fpToInt (.fcvtLuD rd rs1 rm) .d .lu rd rs1 rm s

/-- FCVT.D.W (R268). -/
def execFcvtDW (rd rs1 : Reg) (rm : BitVec 3) (s : State) : Outcome :=
  intToFp (.fcvtDW rd rs1 rm) .d .w rd rs1 rm s

/-- FCVT.D.WU (R269). -/
def execFcvtDWu (rd rs1 : Reg) (rm : BitVec 3) (s : State) : Outcome :=
  intToFp (.fcvtDWu rd rs1 rm) .d .wu rd rs1 rm s

/-- FCVT.D.L (R270). -/
def execFcvtDL (rd rs1 : Reg) (rm : BitVec 3) (s : State) : Outcome :=
  intToFp (.fcvtDL rd rs1 rm) .d .l rd rs1 rm s

/-- FCVT.D.LU (R271). -/
def execFcvtDLu (rd rs1 : Reg) (rm : BitVec 3) (s : State) : Outcome :=
  intToFp (.fcvtDLu rd rs1 rm) .d .lu rd rs1 rm s

/-- FCVT.S.D (R272). -/
def execFcvtSD (rd rs1 : Reg) (rm : BitVec 3) (s : State) : Outcome :=
  fpToFp (.fcvtSD rd rs1 rm) .s .d rd rs1 rm s

/-- FCVT.D.S (R273). -/
def execFcvtDS (rd rs1 : Reg) (rm : BitVec 3) (s : State) : Outcome :=
  fpToFp (.fcvtDS rd rs1 rm) .d .s rd rs1 rm s

/-- FSGNJ.D (R274). -/
def execFsgnjD (rd rs1 rs2 : Reg) (s : State) : Outcome :=
  unrounded2 (.fsgnjD rd rs1 rs2) .d (fsgnj .d .j) rd rs1 rs2 s

/-- FSGNJN.D (R275). -/
def execFsgnjnD (rd rs1 rs2 : Reg) (s : State) : Outcome :=
  unrounded2 (.fsgnjnD rd rs1 rs2) .d (fsgnj .d .jn) rd rs1 rs2 s

/-- FSGNJX.D (R276). -/
def execFsgnjxD (rd rs1 rs2 : Reg) (s : State) : Outcome :=
  unrounded2 (.fsgnjxD rd rs1 rs2) .d (fsgnj .d .jx) rd rs1 rs2 s

/-- FMV.X.D (R277). -/
def execFmvXD (rd rs1 : Reg) (s : State) : Outcome :=
  moveToX (.fmvXD rd rs1) .d rd rs1 s

/-- FMV.D.X (R278). -/
def execFmvDX (rd rs1 : Reg) (s : State) : Outcome :=
  moveFromX (.fmvDX rd rs1) .d rd rs1 s

/-- FEQ.D (R279). -/
def execFeqD (rd rs1 rs2 : Reg) (s : State) : Outcome :=
  compareFp (.feqD rd rs1 rs2) .d .eq rd rs1 rs2 s

/-- FLT.D (R280). -/
def execFltD (rd rs1 rs2 : Reg) (s : State) : Outcome :=
  compareFp (.fltD rd rs1 rs2) .d .lt rd rs1 rs2 s

/-- FLE.D (R281). -/
def execFleD (rd rs1 rs2 : Reg) (s : State) : Outcome :=
  compareFp (.fleD rd rs1 rs2) .d .le rd rs1 rs2 s

/-- FCLASS.D (R282). -/
def execFclassD (rd rs1 : Reg) (s : State) : Outcome :=
  classify (.fclassD rd rs1) .d rd rs1 s

end Sys2Proof.Machine
end

