-- ==== Sys2Proof/Machine/Half.lean ====
section
/-!
DEFINITION. The meanings of Zfh and Zfhmin, one definition per row of the opcode
table, from the rule that its docstring names (44_zfh_half.md, 44_zfh_half_part2.md).
-/

namespace Sys2Proof.Machine

/-- FLH (R351). -/
def execFlh (rd rs1 : Reg) (imm : BitVec 12) (s : State) : Outcome :=
  load (.flh rd rs1 imm) .h rd rs1 imm s

/-- FSH (R352). -/
def execFsh (rs2 rs1 : Reg) (imm : BitVec 12) (s : State) : Outcome :=
  store (.fsh rs2 rs1 imm) .h rs2 rs1 imm s

/-- FADD.H (R353). -/
def execFaddH (rd rs1 rs2 : Reg) (rm : BitVec 3) (s : State) : Outcome :=
  rounded2 (.faddH rd rs1 rs2 rm) .h (fadd .h) rd rs1 rs2 rm s

/-- FSUB.H (R354). -/
def execFsubH (rd rs1 rs2 : Reg) (rm : BitVec 3) (s : State) : Outcome :=
  rounded2 (.fsubH rd rs1 rs2 rm) .h (fsub .h) rd rs1 rs2 rm s

/-- FMUL.H (R355). -/
def execFmulH (rd rs1 rs2 : Reg) (rm : BitVec 3) (s : State) : Outcome :=
  rounded2 (.fmulH rd rs1 rs2 rm) .h (fmul .h) rd rs1 rs2 rm s

/-- FDIV.H (R356). -/
def execFdivH (rd rs1 rs2 : Reg) (rm : BitVec 3) (s : State) : Outcome :=
  rounded2 (.fdivH rd rs1 rs2 rm) .h (fdiv .h) rd rs1 rs2 rm s

/-- FSQRT.H (R357). -/
def execFsqrtH (rd rs1 : Reg) (rm : BitVec 3) (s : State) : Outcome :=
  rounded1 (.fsqrtH rd rs1 rm) .h (fsqrt .h) rd rs1 rm s

/-- FMIN.H (R358). -/
def execFminH (rd rs1 rs2 : Reg) (s : State) : Outcome :=
  unrounded2 (.fminH rd rs1 rs2) .h (fminmax .h false) rd rs1 rs2 s

/-- FMAX.H (R359). -/
def execFmaxH (rd rs1 rs2 : Reg) (s : State) : Outcome :=
  unrounded2 (.fmaxH rd rs1 rs2) .h (fminmax .h true) rd rs1 rs2 s

/-- FMADD.H (R360). -/
def execFmaddH (rd rs1 rs2 rs3 : Reg) (rm : BitVec 3) (s : State) : Outcome :=
  fused (.fmaddH rd rs1 rs2 rs3 rm) .h false false rd rs1 rs2 rs3 rm s

/-- FMSUB.H (R361). -/
def execFmsubH (rd rs1 rs2 rs3 : Reg) (rm : BitVec 3) (s : State) : Outcome :=
  fused (.fmsubH rd rs1 rs2 rs3 rm) .h false true rd rs1 rs2 rs3 rm s

/-- FNMSUB.H (R362). -/
def execFnmsubH (rd rs1 rs2 rs3 : Reg) (rm : BitVec 3) (s : State) : Outcome :=
  fused (.fnmsubH rd rs1 rs2 rs3 rm) .h true false rd rs1 rs2 rs3 rm s

/-- FNMADD.H (R363). -/
def execFnmaddH (rd rs1 rs2 rs3 : Reg) (rm : BitVec 3) (s : State) : Outcome :=
  fused (.fnmaddH rd rs1 rs2 rs3 rm) .h true true rd rs1 rs2 rs3 rm s

/-- FCVT.W.H (R364). -/
def execFcvtWH (rd rs1 : Reg) (rm : BitVec 3) (s : State) : Outcome :=
  fpToInt (.fcvtWH rd rs1 rm) .h .w rd rs1 rm s

/-- FCVT.WU.H (R365). -/
def execFcvtWuH (rd rs1 : Reg) (rm : BitVec 3) (s : State) : Outcome :=
  fpToInt (.fcvtWuH rd rs1 rm) .h .wu rd rs1 rm s

/-- FCVT.L.H (R366). -/
def execFcvtLH (rd rs1 : Reg) (rm : BitVec 3) (s : State) : Outcome :=
  fpToInt (.fcvtLH rd rs1 rm) .h .l rd rs1 rm s

/-- FCVT.LU.H (R367). -/
def execFcvtLuH (rd rs1 : Reg) (rm : BitVec 3) (s : State) : Outcome :=
  fpToInt (.fcvtLuH rd rs1 rm) .h .lu rd rs1 rm s

/-- FCVT.H.W (R368). -/
def execFcvtHW (rd rs1 : Reg) (rm : BitVec 3) (s : State) : Outcome :=
  intToFp (.fcvtHW rd rs1 rm) .h .w rd rs1 rm s

/-- FCVT.H.WU (R369). -/
def execFcvtHWu (rd rs1 : Reg) (rm : BitVec 3) (s : State) : Outcome :=
  intToFp (.fcvtHWu rd rs1 rm) .h .wu rd rs1 rm s

/-- FCVT.H.L (R370). -/
def execFcvtHL (rd rs1 : Reg) (rm : BitVec 3) (s : State) : Outcome :=
  intToFp (.fcvtHL rd rs1 rm) .h .l rd rs1 rm s

/-- FCVT.H.LU (R371). -/
def execFcvtHLu (rd rs1 : Reg) (rm : BitVec 3) (s : State) : Outcome :=
  intToFp (.fcvtHLu rd rs1 rm) .h .lu rd rs1 rm s

/-- FCVT.S.H (R372). -/
def execFcvtSH (rd rs1 : Reg) (rm : BitVec 3) (s : State) : Outcome :=
  fpToFp (.fcvtSH rd rs1 rm) .s .h rd rs1 rm s

/-- FCVT.H.S (R373). -/
def execFcvtHS (rd rs1 : Reg) (rm : BitVec 3) (s : State) : Outcome :=
  fpToFp (.fcvtHS rd rs1 rm) .h .s rd rs1 rm s

/-- FCVT.D.H (R374). -/
def execFcvtDH (rd rs1 : Reg) (rm : BitVec 3) (s : State) : Outcome :=
  fpToFp (.fcvtDH rd rs1 rm) .d .h rd rs1 rm s

/-- FCVT.H.D (R375). -/
def execFcvtHD (rd rs1 : Reg) (rm : BitVec 3) (s : State) : Outcome :=
  fpToFp (.fcvtHD rd rs1 rm) .h .d rd rs1 rm s

/-- FCVT.Q.H (R376). -/
def execFcvtQH (rd rs1 : Reg) (rm : BitVec 3) (s : State) : Outcome :=
  fpToFp (.fcvtQH rd rs1 rm) .q .h rd rs1 rm s

/-- FCVT.H.Q (R377). -/
def execFcvtHQ (rd rs1 : Reg) (rm : BitVec 3) (s : State) : Outcome :=
  fpToFp (.fcvtHQ rd rs1 rm) .h .q rd rs1 rm s

/-- FSGNJ.H (R378). -/
def execFsgnjH (rd rs1 rs2 : Reg) (s : State) : Outcome :=
  unrounded2 (.fsgnjH rd rs1 rs2) .h (fsgnj .h .j) rd rs1 rs2 s

/-- FSGNJN.H (R379). -/
def execFsgnjnH (rd rs1 rs2 : Reg) (s : State) : Outcome :=
  unrounded2 (.fsgnjnH rd rs1 rs2) .h (fsgnj .h .jn) rd rs1 rs2 s

/-- FSGNJX.H (R380). -/
def execFsgnjxH (rd rs1 rs2 : Reg) (s : State) : Outcome :=
  unrounded2 (.fsgnjxH rd rs1 rs2) .h (fsgnj .h .jx) rd rs1 rs2 s

/-- FMV.X.H (R381). -/
def execFmvXH (rd rs1 : Reg) (s : State) : Outcome :=
  moveToX (.fmvXH rd rs1) .h rd rs1 s

/-- FMV.H.X (R382). -/
def execFmvHX (rd rs1 : Reg) (s : State) : Outcome :=
  moveFromX (.fmvHX rd rs1) .h rd rs1 s

/-- FEQ.H (R383). -/
def execFeqH (rd rs1 rs2 : Reg) (s : State) : Outcome :=
  compareFp (.feqH rd rs1 rs2) .h .eq rd rs1 rs2 s

/-- FLT.H (R384). -/
def execFltH (rd rs1 rs2 : Reg) (s : State) : Outcome :=
  compareFp (.fltH rd rs1 rs2) .h .lt rd rs1 rs2 s

/-- FLE.H (R385). -/
def execFleH (rd rs1 rs2 : Reg) (s : State) : Outcome :=
  compareFp (.fleH rd rs1 rs2) .h .le rd rs1 rs2 s

/-- FCLASS.H (R386). -/
def execFclassH (rd rs1 : Reg) (s : State) : Outcome :=
  classify (.fclassH rd rs1) .h rd rs1 s

end Sys2Proof.Machine
end

