-- ==== Sys2Proof/Machine/Quad.lean ====
section
/-!
DEFINITION. The meanings of the Q extension, one definition per row of the opcode
table, from the rule that its docstring names (43_q_quad.md, 43_q_quad_part2.md).
-/

namespace Sys2Proof.Machine

/-- FLQ (R301). -/
def execFlq (rd rs1 : Reg) (imm : BitVec 12) (s : State) : Outcome :=
  load (.flq rd rs1 imm) .q rd rs1 imm s

/-- FSQ (R302). -/
def execFsq (rs2 rs1 : Reg) (imm : BitVec 12) (s : State) : Outcome :=
  store (.fsq rs2 rs1 imm) .q rs2 rs1 imm s

/-- FADD.Q (R303). -/
def execFaddQ (rd rs1 rs2 : Reg) (rm : BitVec 3) (s : State) : Outcome :=
  rounded2 (.faddQ rd rs1 rs2 rm) .q (fadd .q) rd rs1 rs2 rm s

/-- FSUB.Q (R304). -/
def execFsubQ (rd rs1 rs2 : Reg) (rm : BitVec 3) (s : State) : Outcome :=
  rounded2 (.fsubQ rd rs1 rs2 rm) .q (fsub .q) rd rs1 rs2 rm s

/-- FMUL.Q (R305). -/
def execFmulQ (rd rs1 rs2 : Reg) (rm : BitVec 3) (s : State) : Outcome :=
  rounded2 (.fmulQ rd rs1 rs2 rm) .q (fmul .q) rd rs1 rs2 rm s

/-- FDIV.Q (R306). -/
def execFdivQ (rd rs1 rs2 : Reg) (rm : BitVec 3) (s : State) : Outcome :=
  rounded2 (.fdivQ rd rs1 rs2 rm) .q (fdiv .q) rd rs1 rs2 rm s

/-- FSQRT.Q (R307). -/
def execFsqrtQ (rd rs1 : Reg) (rm : BitVec 3) (s : State) : Outcome :=
  rounded1 (.fsqrtQ rd rs1 rm) .q (fsqrt .q) rd rs1 rm s

/-- FMIN.Q (R308). -/
def execFminQ (rd rs1 rs2 : Reg) (s : State) : Outcome :=
  unrounded2 (.fminQ rd rs1 rs2) .q (fminmax .q false) rd rs1 rs2 s

/-- FMAX.Q (R309). -/
def execFmaxQ (rd rs1 rs2 : Reg) (s : State) : Outcome :=
  unrounded2 (.fmaxQ rd rs1 rs2) .q (fminmax .q true) rd rs1 rs2 s

/-- FMADD.Q (R310). -/
def execFmaddQ (rd rs1 rs2 rs3 : Reg) (rm : BitVec 3) (s : State) : Outcome :=
  fused (.fmaddQ rd rs1 rs2 rs3 rm) .q false false rd rs1 rs2 rs3 rm s

/-- FMSUB.Q (R311). -/
def execFmsubQ (rd rs1 rs2 rs3 : Reg) (rm : BitVec 3) (s : State) : Outcome :=
  fused (.fmsubQ rd rs1 rs2 rs3 rm) .q false true rd rs1 rs2 rs3 rm s

/-- FNMSUB.Q (R312). -/
def execFnmsubQ (rd rs1 rs2 rs3 : Reg) (rm : BitVec 3) (s : State) : Outcome :=
  fused (.fnmsubQ rd rs1 rs2 rs3 rm) .q true false rd rs1 rs2 rs3 rm s

/-- FNMADD.Q (R313). -/
def execFnmaddQ (rd rs1 rs2 rs3 : Reg) (rm : BitVec 3) (s : State) : Outcome :=
  fused (.fnmaddQ rd rs1 rs2 rs3 rm) .q true true rd rs1 rs2 rs3 rm s

/-- FCVT.W.Q (R314). -/
def execFcvtWQ (rd rs1 : Reg) (rm : BitVec 3) (s : State) : Outcome :=
  fpToInt (.fcvtWQ rd rs1 rm) .q .w rd rs1 rm s

/-- FCVT.WU.Q (R315). -/
def execFcvtWuQ (rd rs1 : Reg) (rm : BitVec 3) (s : State) : Outcome :=
  fpToInt (.fcvtWuQ rd rs1 rm) .q .wu rd rs1 rm s

/-- FCVT.L.Q (R316). -/
def execFcvtLQ (rd rs1 : Reg) (rm : BitVec 3) (s : State) : Outcome :=
  fpToInt (.fcvtLQ rd rs1 rm) .q .l rd rs1 rm s

/-- FCVT.LU.Q (R317). -/
def execFcvtLuQ (rd rs1 : Reg) (rm : BitVec 3) (s : State) : Outcome :=
  fpToInt (.fcvtLuQ rd rs1 rm) .q .lu rd rs1 rm s

/-- FCVT.Q.W (R318). -/
def execFcvtQW (rd rs1 : Reg) (rm : BitVec 3) (s : State) : Outcome :=
  intToFp (.fcvtQW rd rs1 rm) .q .w rd rs1 rm s

/-- FCVT.Q.WU (R319). -/
def execFcvtQWu (rd rs1 : Reg) (rm : BitVec 3) (s : State) : Outcome :=
  intToFp (.fcvtQWu rd rs1 rm) .q .wu rd rs1 rm s

/-- FCVT.Q.L (R320). -/
def execFcvtQL (rd rs1 : Reg) (rm : BitVec 3) (s : State) : Outcome :=
  intToFp (.fcvtQL rd rs1 rm) .q .l rd rs1 rm s

/-- FCVT.Q.LU (R321). -/
def execFcvtQLu (rd rs1 : Reg) (rm : BitVec 3) (s : State) : Outcome :=
  intToFp (.fcvtQLu rd rs1 rm) .q .lu rd rs1 rm s

/-- FCVT.S.Q (R322). -/
def execFcvtSQ (rd rs1 : Reg) (rm : BitVec 3) (s : State) : Outcome :=
  fpToFp (.fcvtSQ rd rs1 rm) .s .q rd rs1 rm s

/-- FCVT.Q.S (R323). -/
def execFcvtQS (rd rs1 : Reg) (rm : BitVec 3) (s : State) : Outcome :=
  fpToFp (.fcvtQS rd rs1 rm) .q .s rd rs1 rm s

/-- FCVT.D.Q (R324). -/
def execFcvtDQ (rd rs1 : Reg) (rm : BitVec 3) (s : State) : Outcome :=
  fpToFp (.fcvtDQ rd rs1 rm) .d .q rd rs1 rm s

/-- FCVT.Q.D (R325). -/
def execFcvtQD (rd rs1 : Reg) (rm : BitVec 3) (s : State) : Outcome :=
  fpToFp (.fcvtQD rd rs1 rm) .q .d rd rs1 rm s

/-- FSGNJ.Q (R326). -/
def execFsgnjQ (rd rs1 rs2 : Reg) (s : State) : Outcome :=
  unrounded2 (.fsgnjQ rd rs1 rs2) .q (fsgnj .q .j) rd rs1 rs2 s

/-- FSGNJN.Q (R327). -/
def execFsgnjnQ (rd rs1 rs2 : Reg) (s : State) : Outcome :=
  unrounded2 (.fsgnjnQ rd rs1 rs2) .q (fsgnj .q .jn) rd rs1 rs2 s

/-- FSGNJX.Q (R328). -/
def execFsgnjxQ (rd rs1 rs2 : Reg) (s : State) : Outcome :=
  unrounded2 (.fsgnjxQ rd rs1 rs2) .q (fsgnj .q .jx) rd rs1 rs2 s

/-- FEQ.Q (R329). -/
def execFeqQ (rd rs1 rs2 : Reg) (s : State) : Outcome :=
  compareFp (.feqQ rd rs1 rs2) .q .eq rd rs1 rs2 s

/-- FLT.Q (R330). -/
def execFltQ (rd rs1 rs2 : Reg) (s : State) : Outcome :=
  compareFp (.fltQ rd rs1 rs2) .q .lt rd rs1 rs2 s

/-- FLE.Q (R331). -/
def execFleQ (rd rs1 rs2 : Reg) (s : State) : Outcome :=
  compareFp (.fleQ rd rs1 rs2) .q .le rd rs1 rs2 s

/-- FCLASS.Q (R332). -/
def execFclassQ (rd rs1 : Reg) (s : State) : Outcome :=
  classify (.fclassQ rd rs1) .q rd rs1 s

end Sys2Proof.Machine
end

