-- ==== Sys2Proof/Machine/Single.lean ====
section
/-!
DEFINITION. The meanings of the F extension, one definition per row of the opcode
table, from the rule that its docstring names (41_f_single.md, 41_f_single_part2.md).
-/

namespace Sys2Proof.Machine

/-- FLW (R201). -/
def execFlw (rd rs1 : Reg) (imm : BitVec 12) (s : State) : Outcome :=
  load (.flw rd rs1 imm) .s rd rs1 imm s

/-- FSW (R202). -/
def execFsw (rs2 rs1 : Reg) (imm : BitVec 12) (s : State) : Outcome :=
  store (.fsw rs2 rs1 imm) .s rs2 rs1 imm s

/-- FADD.S (R203). -/
def execFaddS (rd rs1 rs2 : Reg) (rm : BitVec 3) (s : State) : Outcome :=
  rounded2 (.faddS rd rs1 rs2 rm) .s (fadd .s) rd rs1 rs2 rm s

/-- FSUB.S (R204). -/
def execFsubS (rd rs1 rs2 : Reg) (rm : BitVec 3) (s : State) : Outcome :=
  rounded2 (.fsubS rd rs1 rs2 rm) .s (fsub .s) rd rs1 rs2 rm s

/-- FMUL.S (R205). -/
def execFmulS (rd rs1 rs2 : Reg) (rm : BitVec 3) (s : State) : Outcome :=
  rounded2 (.fmulS rd rs1 rs2 rm) .s (fmul .s) rd rs1 rs2 rm s

/-- FDIV.S (R206). -/
def execFdivS (rd rs1 rs2 : Reg) (rm : BitVec 3) (s : State) : Outcome :=
  rounded2 (.fdivS rd rs1 rs2 rm) .s (fdiv .s) rd rs1 rs2 rm s

/-- FSQRT.S (R207). -/
def execFsqrtS (rd rs1 : Reg) (rm : BitVec 3) (s : State) : Outcome :=
  rounded1 (.fsqrtS rd rs1 rm) .s (fsqrt .s) rd rs1 rm s

/-- FMIN.S (R208). -/
def execFminS (rd rs1 rs2 : Reg) (s : State) : Outcome :=
  unrounded2 (.fminS rd rs1 rs2) .s (fminmax .s false) rd rs1 rs2 s

/-- FMAX.S (R209). -/
def execFmaxS (rd rs1 rs2 : Reg) (s : State) : Outcome :=
  unrounded2 (.fmaxS rd rs1 rs2) .s (fminmax .s true) rd rs1 rs2 s

/-- FMADD.S (R210). -/
def execFmaddS (rd rs1 rs2 rs3 : Reg) (rm : BitVec 3) (s : State) : Outcome :=
  fused (.fmaddS rd rs1 rs2 rs3 rm) .s false false rd rs1 rs2 rs3 rm s

/-- FMSUB.S (R211). -/
def execFmsubS (rd rs1 rs2 rs3 : Reg) (rm : BitVec 3) (s : State) : Outcome :=
  fused (.fmsubS rd rs1 rs2 rs3 rm) .s false true rd rs1 rs2 rs3 rm s

/-- FNMSUB.S (R212). -/
def execFnmsubS (rd rs1 rs2 rs3 : Reg) (rm : BitVec 3) (s : State) : Outcome :=
  fused (.fnmsubS rd rs1 rs2 rs3 rm) .s true false rd rs1 rs2 rs3 rm s

/-- FNMADD.S (R213). -/
def execFnmaddS (rd rs1 rs2 rs3 : Reg) (rm : BitVec 3) (s : State) : Outcome :=
  fused (.fnmaddS rd rs1 rs2 rs3 rm) .s true true rd rs1 rs2 rs3 rm s

/-- FCVT.W.S (R214). -/
def execFcvtWS (rd rs1 : Reg) (rm : BitVec 3) (s : State) : Outcome :=
  fpToInt (.fcvtWS rd rs1 rm) .s .w rd rs1 rm s

/-- FCVT.WU.S (R215). -/
def execFcvtWuS (rd rs1 : Reg) (rm : BitVec 3) (s : State) : Outcome :=
  fpToInt (.fcvtWuS rd rs1 rm) .s .wu rd rs1 rm s

/-- FCVT.L.S (R216). -/
def execFcvtLS (rd rs1 : Reg) (rm : BitVec 3) (s : State) : Outcome :=
  fpToInt (.fcvtLS rd rs1 rm) .s .l rd rs1 rm s

/-- FCVT.LU.S (R217). -/
def execFcvtLuS (rd rs1 : Reg) (rm : BitVec 3) (s : State) : Outcome :=
  fpToInt (.fcvtLuS rd rs1 rm) .s .lu rd rs1 rm s

/-- FCVT.S.W (R218). -/
def execFcvtSW (rd rs1 : Reg) (rm : BitVec 3) (s : State) : Outcome :=
  intToFp (.fcvtSW rd rs1 rm) .s .w rd rs1 rm s

/-- FCVT.S.WU (R219). -/
def execFcvtSWu (rd rs1 : Reg) (rm : BitVec 3) (s : State) : Outcome :=
  intToFp (.fcvtSWu rd rs1 rm) .s .wu rd rs1 rm s

/-- FCVT.S.L (R220). -/
def execFcvtSL (rd rs1 : Reg) (rm : BitVec 3) (s : State) : Outcome :=
  intToFp (.fcvtSL rd rs1 rm) .s .l rd rs1 rm s

/-- FCVT.S.LU (R221). -/
def execFcvtSLu (rd rs1 : Reg) (rm : BitVec 3) (s : State) : Outcome :=
  intToFp (.fcvtSLu rd rs1 rm) .s .lu rd rs1 rm s

/-- FSGNJ.S (R222). -/
def execFsgnjS (rd rs1 rs2 : Reg) (s : State) : Outcome :=
  unrounded2 (.fsgnjS rd rs1 rs2) .s (fsgnj .s .j) rd rs1 rs2 s

/-- FSGNJN.S (R223). -/
def execFsgnjnS (rd rs1 rs2 : Reg) (s : State) : Outcome :=
  unrounded2 (.fsgnjnS rd rs1 rs2) .s (fsgnj .s .jn) rd rs1 rs2 s

/-- FSGNJX.S (R224). -/
def execFsgnjxS (rd rs1 rs2 : Reg) (s : State) : Outcome :=
  unrounded2 (.fsgnjxS rd rs1 rs2) .s (fsgnj .s .jx) rd rs1 rs2 s

/-- FMV.X.W (R225). -/
def execFmvXW (rd rs1 : Reg) (s : State) : Outcome :=
  moveToX (.fmvXW rd rs1) .s rd rs1 s

/-- FMV.W.X (R226). -/
def execFmvWX (rd rs1 : Reg) (s : State) : Outcome :=
  moveFromX (.fmvWX rd rs1) .s rd rs1 s

/-- FEQ.S (R227). -/
def execFeqS (rd rs1 rs2 : Reg) (s : State) : Outcome :=
  compareFp (.feqS rd rs1 rs2) .s .eq rd rs1 rs2 s

/-- FLT.S (R228). -/
def execFltS (rd rs1 rs2 : Reg) (s : State) : Outcome :=
  compareFp (.fltS rd rs1 rs2) .s .lt rd rs1 rs2 s

/-- FLE.S (R229). -/
def execFleS (rd rs1 rs2 : Reg) (s : State) : Outcome :=
  compareFp (.fleS rd rs1 rs2) .s .le rd rs1 rs2 s

/-- FCLASS.S (R230). -/
def execFclassS (rd rs1 : Reg) (s : State) : Outcome :=
  classify (.fclassS rd rs1) .s rd rs1 s

end Sys2Proof.Machine
end

