-- ==== Sys2Proof/Machine/Zfa.lean ====
section
/-!
DEFINITION. The meanings of Zfa, one definition per row of the opcode
table, from the rule that its docstring names (45_zfa.md, 45_zfa_part2.md).
-/

namespace Sys2Proof.Machine

/-- FLI.S (R401). -/
def execFliS (rd : Reg) (k : BitVec 5) (s : State) : Outcome :=
  loadConstant (.fliS rd k) .s rd k s

/-- FLI.D (R402). -/
def execFliD (rd : Reg) (k : BitVec 5) (s : State) : Outcome :=
  loadConstant (.fliD rd k) .d rd k s

/-- FLI.H (R403). -/
def execFliH (rd : Reg) (k : BitVec 5) (s : State) : Outcome :=
  loadConstant (.fliH rd k) .h rd k s

/-- FLI.Q (R404). -/
def execFliQ (rd : Reg) (k : BitVec 5) (s : State) : Outcome :=
  loadConstant (.fliQ rd k) .q rd k s

/-- FMINM.S (R405). -/
def execFminmS (rd rs1 rs2 : Reg) (s : State) : Outcome :=
  unrounded2 (.fminmS rd rs1 rs2) .s (fminmaxm .s false) rd rs1 rs2 s

/-- FMAXM.S (R406). -/
def execFmaxmS (rd rs1 rs2 : Reg) (s : State) : Outcome :=
  unrounded2 (.fmaxmS rd rs1 rs2) .s (fminmaxm .s true) rd rs1 rs2 s

/-- FMINM.D (R407). -/
def execFminmD (rd rs1 rs2 : Reg) (s : State) : Outcome :=
  unrounded2 (.fminmD rd rs1 rs2) .d (fminmaxm .d false) rd rs1 rs2 s

/-- FMAXM.D (R408). -/
def execFmaxmD (rd rs1 rs2 : Reg) (s : State) : Outcome :=
  unrounded2 (.fmaxmD rd rs1 rs2) .d (fminmaxm .d true) rd rs1 rs2 s

/-- FMINM.H (R409). -/
def execFminmH (rd rs1 rs2 : Reg) (s : State) : Outcome :=
  unrounded2 (.fminmH rd rs1 rs2) .h (fminmaxm .h false) rd rs1 rs2 s

/-- FMAXM.H (R410). -/
def execFmaxmH (rd rs1 rs2 : Reg) (s : State) : Outcome :=
  unrounded2 (.fmaxmH rd rs1 rs2) .h (fminmaxm .h true) rd rs1 rs2 s

/-- FMINM.Q (R411). -/
def execFminmQ (rd rs1 rs2 : Reg) (s : State) : Outcome :=
  unrounded2 (.fminmQ rd rs1 rs2) .q (fminmaxm .q false) rd rs1 rs2 s

/-- FMAXM.Q (R412). -/
def execFmaxmQ (rd rs1 rs2 : Reg) (s : State) : Outcome :=
  unrounded2 (.fmaxmQ rd rs1 rs2) .q (fminmaxm .q true) rd rs1 rs2 s

/-- FROUND.S (R413). -/
def execFroundS (rd rs1 : Reg) (rm : BitVec 3) (s : State) : Outcome :=
  rounded1 (.froundS rd rs1 rm) .s (fround .s false) rd rs1 rm s

/-- FROUNDNX.S (R414). -/
def execFroundnxS (rd rs1 : Reg) (rm : BitVec 3) (s : State) : Outcome :=
  rounded1 (.froundnxS rd rs1 rm) .s (fround .s true) rd rs1 rm s

/-- FROUND.D (R415). -/
def execFroundD (rd rs1 : Reg) (rm : BitVec 3) (s : State) : Outcome :=
  rounded1 (.froundD rd rs1 rm) .d (fround .d false) rd rs1 rm s

/-- FROUNDNX.D (R416). -/
def execFroundnxD (rd rs1 : Reg) (rm : BitVec 3) (s : State) : Outcome :=
  rounded1 (.froundnxD rd rs1 rm) .d (fround .d true) rd rs1 rm s

/-- FROUND.H (R417). -/
def execFroundH (rd rs1 : Reg) (rm : BitVec 3) (s : State) : Outcome :=
  rounded1 (.froundH rd rs1 rm) .h (fround .h false) rd rs1 rm s

/-- FROUNDNX.H (R418). -/
def execFroundnxH (rd rs1 : Reg) (rm : BitVec 3) (s : State) : Outcome :=
  rounded1 (.froundnxH rd rs1 rm) .h (fround .h true) rd rs1 rm s

/-- FROUND.Q (R419). -/
def execFroundQ (rd rs1 : Reg) (rm : BitVec 3) (s : State) : Outcome :=
  rounded1 (.froundQ rd rs1 rm) .q (fround .q false) rd rs1 rm s

/-- FROUNDNX.Q (R420). -/
def execFroundnxQ (rd rs1 : Reg) (rm : BitVec 3) (s : State) : Outcome :=
  rounded1 (.froundnxQ rd rs1 rm) .q (fround .q true) rd rs1 rm s

/-- FCVTMOD.W.D (R421). -/
def execFcvtmodWD (rd rs1 : Reg) (s : State) : Outcome :=
  modularConvert (.fcvtmodWD rd rs1) rd rs1 s

/-- FMVH.X.D (R422). Bits 63:32. -/
def execFmvhXD (rd rs1 : Reg) (s : State) : Outcome :=
  moveHighToX (.fmvhXD rd rs1) 32 rd rs1 s

/-- FMVP.D.X (R423). -/
def execFmvpDX (rd rs1 rs2 : Reg) (s : State) : Outcome :=
  movePairFromX (.fmvpDX rd rs1 rs2) .d 32 rd rs1 rs2 s

/-- FMVH.X.Q (R424). Bits 127:64. -/
def execFmvhXQ (rd rs1 : Reg) (s : State) : Outcome :=
  moveHighToX (.fmvhXQ rd rs1) 64 rd rs1 s

/-- FMVP.Q.X (R425). -/
def execFmvpQX (rd rs1 rs2 : Reg) (s : State) : Outcome :=
  movePairFromX (.fmvpQX rd rs1 rs2) .q 64 rd rs1 rs2 s

/-- FLEQ.S (R426). -/
def execFleqS (rd rs1 rs2 : Reg) (s : State) : Outcome :=
  compareFp (.fleqS rd rs1 rs2) .s .leq rd rs1 rs2 s

/-- FLTQ.S (R427). -/
def execFltqS (rd rs1 rs2 : Reg) (s : State) : Outcome :=
  compareFp (.fltqS rd rs1 rs2) .s .ltq rd rs1 rs2 s

/-- FLEQ.D (R428). -/
def execFleqD (rd rs1 rs2 : Reg) (s : State) : Outcome :=
  compareFp (.fleqD rd rs1 rs2) .d .leq rd rs1 rs2 s

/-- FLTQ.D (R429). -/
def execFltqD (rd rs1 rs2 : Reg) (s : State) : Outcome :=
  compareFp (.fltqD rd rs1 rs2) .d .ltq rd rs1 rs2 s

/-- FLEQ.H (R430). -/
def execFleqH (rd rs1 rs2 : Reg) (s : State) : Outcome :=
  compareFp (.fleqH rd rs1 rs2) .h .leq rd rs1 rs2 s

/-- FLTQ.H (R431). -/
def execFltqH (rd rs1 rs2 : Reg) (s : State) : Outcome :=
  compareFp (.fltqH rd rs1 rs2) .h .ltq rd rs1 rs2 s

/-- FLEQ.Q (R432). -/
def execFleqQ (rd rs1 rs2 : Reg) (s : State) : Outcome :=
  compareFp (.fleqQ rd rs1 rs2) .q .leq rd rs1 rs2 s

/-- FLTQ.Q (R433). -/
def execFltqQ (rd rs1 rs2 : Reg) (s : State) : Outcome :=
  compareFp (.fltqQ rd rs1 rs2) .q .ltq rd rs1 rs2 s

end Sys2Proof.Machine
end

