-- ==== Sys2Proof/Machine/Dispatch.lean ====
section
/-!
DEFINITION. The dispatch: one arm per constructor of Instr, each one direct call of the instruction's meaning.
-/

namespace Sys2Proof.Machine

def exec (i : Instr) (s : State) : Host.Outcome State Fault Refusal :=
  match i with
  | .flw rd rs1 imm => Sys2Proof.Machine.execFlw rd rs1 imm s
  | .fsw rs2 rs1 imm => Sys2Proof.Machine.execFsw rs2 rs1 imm s
  | .faddS rd rs1 rs2 rm => Sys2Proof.Machine.execFaddS rd rs1 rs2 rm s
  | .fsubS rd rs1 rs2 rm => Sys2Proof.Machine.execFsubS rd rs1 rs2 rm s
  | .fmulS rd rs1 rs2 rm => Sys2Proof.Machine.execFmulS rd rs1 rs2 rm s
  | .fdivS rd rs1 rs2 rm => Sys2Proof.Machine.execFdivS rd rs1 rs2 rm s
  | .fsqrtS rd rs1 rm => Sys2Proof.Machine.execFsqrtS rd rs1 rm s
  | .fminS rd rs1 rs2 => Sys2Proof.Machine.execFminS rd rs1 rs2 s
  | .fmaxS rd rs1 rs2 => Sys2Proof.Machine.execFmaxS rd rs1 rs2 s
  | .fmaddS rd rs1 rs2 rs3 rm => Sys2Proof.Machine.execFmaddS rd rs1 rs2 rs3 rm s
  | .fmsubS rd rs1 rs2 rs3 rm => Sys2Proof.Machine.execFmsubS rd rs1 rs2 rs3 rm s
  | .fnmsubS rd rs1 rs2 rs3 rm => Sys2Proof.Machine.execFnmsubS rd rs1 rs2 rs3 rm s
  | .fnmaddS rd rs1 rs2 rs3 rm => Sys2Proof.Machine.execFnmaddS rd rs1 rs2 rs3 rm s
  | .fcvtWS rd rs1 rm => Sys2Proof.Machine.execFcvtWS rd rs1 rm s
  | .fcvtWuS rd rs1 rm => Sys2Proof.Machine.execFcvtWuS rd rs1 rm s
  | .fcvtLS rd rs1 rm => Sys2Proof.Machine.execFcvtLS rd rs1 rm s
  | .fcvtLuS rd rs1 rm => Sys2Proof.Machine.execFcvtLuS rd rs1 rm s
  | .fcvtSW rd rs1 rm => Sys2Proof.Machine.execFcvtSW rd rs1 rm s
  | .fcvtSWu rd rs1 rm => Sys2Proof.Machine.execFcvtSWu rd rs1 rm s
  | .fcvtSL rd rs1 rm => Sys2Proof.Machine.execFcvtSL rd rs1 rm s
  | .fcvtSLu rd rs1 rm => Sys2Proof.Machine.execFcvtSLu rd rs1 rm s
  | .fsgnjS rd rs1 rs2 => Sys2Proof.Machine.execFsgnjS rd rs1 rs2 s
  | .fsgnjnS rd rs1 rs2 => Sys2Proof.Machine.execFsgnjnS rd rs1 rs2 s
  | .fsgnjxS rd rs1 rs2 => Sys2Proof.Machine.execFsgnjxS rd rs1 rs2 s
  | .fmvXW rd rs1 => Sys2Proof.Machine.execFmvXW rd rs1 s
  | .fmvWX rd rs1 => Sys2Proof.Machine.execFmvWX rd rs1 s
  | .feqS rd rs1 rs2 => Sys2Proof.Machine.execFeqS rd rs1 rs2 s
  | .fltS rd rs1 rs2 => Sys2Proof.Machine.execFltS rd rs1 rs2 s
  | .fleS rd rs1 rs2 => Sys2Proof.Machine.execFleS rd rs1 rs2 s
  | .fclassS rd rs1 => Sys2Proof.Machine.execFclassS rd rs1 s
  | .fld rd rs1 imm => Sys2Proof.Machine.execFld rd rs1 imm s
  | .fsd rs2 rs1 imm => Sys2Proof.Machine.execFsd rs2 rs1 imm s
  | .faddD rd rs1 rs2 rm => Sys2Proof.Machine.execFaddD rd rs1 rs2 rm s
  | .fsubD rd rs1 rs2 rm => Sys2Proof.Machine.execFsubD rd rs1 rs2 rm s
  | .fmulD rd rs1 rs2 rm => Sys2Proof.Machine.execFmulD rd rs1 rs2 rm s
  | .fdivD rd rs1 rs2 rm => Sys2Proof.Machine.execFdivD rd rs1 rs2 rm s
  | .fsqrtD rd rs1 rm => Sys2Proof.Machine.execFsqrtD rd rs1 rm s
  | .fminD rd rs1 rs2 => Sys2Proof.Machine.execFminD rd rs1 rs2 s
  | .fmaxD rd rs1 rs2 => Sys2Proof.Machine.execFmaxD rd rs1 rs2 s
  | .fmaddD rd rs1 rs2 rs3 rm => Sys2Proof.Machine.execFmaddD rd rs1 rs2 rs3 rm s
  | .fmsubD rd rs1 rs2 rs3 rm => Sys2Proof.Machine.execFmsubD rd rs1 rs2 rs3 rm s
  | .fnmsubD rd rs1 rs2 rs3 rm => Sys2Proof.Machine.execFnmsubD rd rs1 rs2 rs3 rm s
  | .fnmaddD rd rs1 rs2 rs3 rm => Sys2Proof.Machine.execFnmaddD rd rs1 rs2 rs3 rm s
  | .fcvtWD rd rs1 rm => Sys2Proof.Machine.execFcvtWD rd rs1 rm s
  | .fcvtWuD rd rs1 rm => Sys2Proof.Machine.execFcvtWuD rd rs1 rm s
  | .fcvtLD rd rs1 rm => Sys2Proof.Machine.execFcvtLD rd rs1 rm s
  | .fcvtLuD rd rs1 rm => Sys2Proof.Machine.execFcvtLuD rd rs1 rm s
  | .fcvtDW rd rs1 rm => Sys2Proof.Machine.execFcvtDW rd rs1 rm s
  | .fcvtDWu rd rs1 rm => Sys2Proof.Machine.execFcvtDWu rd rs1 rm s
  | .fcvtDL rd rs1 rm => Sys2Proof.Machine.execFcvtDL rd rs1 rm s
  | .fcvtDLu rd rs1 rm => Sys2Proof.Machine.execFcvtDLu rd rs1 rm s
  | .fcvtSD rd rs1 rm => Sys2Proof.Machine.execFcvtSD rd rs1 rm s
  | .fcvtDS rd rs1 rm => Sys2Proof.Machine.execFcvtDS rd rs1 rm s
  | .fsgnjD rd rs1 rs2 => Sys2Proof.Machine.execFsgnjD rd rs1 rs2 s
  | .fsgnjnD rd rs1 rs2 => Sys2Proof.Machine.execFsgnjnD rd rs1 rs2 s
  | .fsgnjxD rd rs1 rs2 => Sys2Proof.Machine.execFsgnjxD rd rs1 rs2 s
  | .fmvXD rd rs1 => Sys2Proof.Machine.execFmvXD rd rs1 s
  | .fmvDX rd rs1 => Sys2Proof.Machine.execFmvDX rd rs1 s
  | .feqD rd rs1 rs2 => Sys2Proof.Machine.execFeqD rd rs1 rs2 s
  | .fltD rd rs1 rs2 => Sys2Proof.Machine.execFltD rd rs1 rs2 s
  | .fleD rd rs1 rs2 => Sys2Proof.Machine.execFleD rd rs1 rs2 s
  | .fclassD rd rs1 => Sys2Proof.Machine.execFclassD rd rs1 s
  | .flq rd rs1 imm => Sys2Proof.Machine.execFlq rd rs1 imm s
  | .fsq rs2 rs1 imm => Sys2Proof.Machine.execFsq rs2 rs1 imm s
  | .faddQ rd rs1 rs2 rm => Sys2Proof.Machine.execFaddQ rd rs1 rs2 rm s
  | .fsubQ rd rs1 rs2 rm => Sys2Proof.Machine.execFsubQ rd rs1 rs2 rm s
  | .fmulQ rd rs1 rs2 rm => Sys2Proof.Machine.execFmulQ rd rs1 rs2 rm s
  | .fdivQ rd rs1 rs2 rm => Sys2Proof.Machine.execFdivQ rd rs1 rs2 rm s
  | .fsqrtQ rd rs1 rm => Sys2Proof.Machine.execFsqrtQ rd rs1 rm s
  | .fminQ rd rs1 rs2 => Sys2Proof.Machine.execFminQ rd rs1 rs2 s
  | .fmaxQ rd rs1 rs2 => Sys2Proof.Machine.execFmaxQ rd rs1 rs2 s
  | .fmaddQ rd rs1 rs2 rs3 rm => Sys2Proof.Machine.execFmaddQ rd rs1 rs2 rs3 rm s
  | .fmsubQ rd rs1 rs2 rs3 rm => Sys2Proof.Machine.execFmsubQ rd rs1 rs2 rs3 rm s
  | .fnmsubQ rd rs1 rs2 rs3 rm => Sys2Proof.Machine.execFnmsubQ rd rs1 rs2 rs3 rm s
  | .fnmaddQ rd rs1 rs2 rs3 rm => Sys2Proof.Machine.execFnmaddQ rd rs1 rs2 rs3 rm s
  | .fcvtWQ rd rs1 rm => Sys2Proof.Machine.execFcvtWQ rd rs1 rm s
  | .fcvtWuQ rd rs1 rm => Sys2Proof.Machine.execFcvtWuQ rd rs1 rm s
  | .fcvtLQ rd rs1 rm => Sys2Proof.Machine.execFcvtLQ rd rs1 rm s
  | .fcvtLuQ rd rs1 rm => Sys2Proof.Machine.execFcvtLuQ rd rs1 rm s
  | .fcvtQW rd rs1 rm => Sys2Proof.Machine.execFcvtQW rd rs1 rm s
  | .fcvtQWu rd rs1 rm => Sys2Proof.Machine.execFcvtQWu rd rs1 rm s
  | .fcvtQL rd rs1 rm => Sys2Proof.Machine.execFcvtQL rd rs1 rm s
  | .fcvtQLu rd rs1 rm => Sys2Proof.Machine.execFcvtQLu rd rs1 rm s
  | .fcvtSQ rd rs1 rm => Sys2Proof.Machine.execFcvtSQ rd rs1 rm s
  | .fcvtQS rd rs1 rm => Sys2Proof.Machine.execFcvtQS rd rs1 rm s
  | .fcvtDQ rd rs1 rm => Sys2Proof.Machine.execFcvtDQ rd rs1 rm s
  | .fcvtQD rd rs1 rm => Sys2Proof.Machine.execFcvtQD rd rs1 rm s
  | .fsgnjQ rd rs1 rs2 => Sys2Proof.Machine.execFsgnjQ rd rs1 rs2 s
  | .fsgnjnQ rd rs1 rs2 => Sys2Proof.Machine.execFsgnjnQ rd rs1 rs2 s
  | .fsgnjxQ rd rs1 rs2 => Sys2Proof.Machine.execFsgnjxQ rd rs1 rs2 s
  | .feqQ rd rs1 rs2 => Sys2Proof.Machine.execFeqQ rd rs1 rs2 s
  | .fltQ rd rs1 rs2 => Sys2Proof.Machine.execFltQ rd rs1 rs2 s
  | .fleQ rd rs1 rs2 => Sys2Proof.Machine.execFleQ rd rs1 rs2 s
  | .fclassQ rd rs1 => Sys2Proof.Machine.execFclassQ rd rs1 s
  | .flh rd rs1 imm => Sys2Proof.Machine.execFlh rd rs1 imm s
  | .fsh rs2 rs1 imm => Sys2Proof.Machine.execFsh rs2 rs1 imm s
  | .faddH rd rs1 rs2 rm => Sys2Proof.Machine.execFaddH rd rs1 rs2 rm s
  | .fsubH rd rs1 rs2 rm => Sys2Proof.Machine.execFsubH rd rs1 rs2 rm s
  | .fmulH rd rs1 rs2 rm => Sys2Proof.Machine.execFmulH rd rs1 rs2 rm s
  | .fdivH rd rs1 rs2 rm => Sys2Proof.Machine.execFdivH rd rs1 rs2 rm s
  | .fsqrtH rd rs1 rm => Sys2Proof.Machine.execFsqrtH rd rs1 rm s
  | .fminH rd rs1 rs2 => Sys2Proof.Machine.execFminH rd rs1 rs2 s
  | .fmaxH rd rs1 rs2 => Sys2Proof.Machine.execFmaxH rd rs1 rs2 s
  | .fmaddH rd rs1 rs2 rs3 rm => Sys2Proof.Machine.execFmaddH rd rs1 rs2 rs3 rm s
  | .fmsubH rd rs1 rs2 rs3 rm => Sys2Proof.Machine.execFmsubH rd rs1 rs2 rs3 rm s
  | .fnmsubH rd rs1 rs2 rs3 rm => Sys2Proof.Machine.execFnmsubH rd rs1 rs2 rs3 rm s
  | .fnmaddH rd rs1 rs2 rs3 rm => Sys2Proof.Machine.execFnmaddH rd rs1 rs2 rs3 rm s
  | .fcvtWH rd rs1 rm => Sys2Proof.Machine.execFcvtWH rd rs1 rm s
  | .fcvtWuH rd rs1 rm => Sys2Proof.Machine.execFcvtWuH rd rs1 rm s
  | .fcvtLH rd rs1 rm => Sys2Proof.Machine.execFcvtLH rd rs1 rm s
  | .fcvtLuH rd rs1 rm => Sys2Proof.Machine.execFcvtLuH rd rs1 rm s
  | .fcvtHW rd rs1 rm => Sys2Proof.Machine.execFcvtHW rd rs1 rm s
  | .fcvtHWu rd rs1 rm => Sys2Proof.Machine.execFcvtHWu rd rs1 rm s
  | .fcvtHL rd rs1 rm => Sys2Proof.Machine.execFcvtHL rd rs1 rm s
  | .fcvtHLu rd rs1 rm => Sys2Proof.Machine.execFcvtHLu rd rs1 rm s
  | .fcvtSH rd rs1 rm => Sys2Proof.Machine.execFcvtSH rd rs1 rm s
  | .fcvtHS rd rs1 rm => Sys2Proof.Machine.execFcvtHS rd rs1 rm s
  | .fcvtDH rd rs1 rm => Sys2Proof.Machine.execFcvtDH rd rs1 rm s
  | .fcvtHD rd rs1 rm => Sys2Proof.Machine.execFcvtHD rd rs1 rm s
  | .fcvtQH rd rs1 rm => Sys2Proof.Machine.execFcvtQH rd rs1 rm s
  | .fcvtHQ rd rs1 rm => Sys2Proof.Machine.execFcvtHQ rd rs1 rm s
  | .fsgnjH rd rs1 rs2 => Sys2Proof.Machine.execFsgnjH rd rs1 rs2 s
  | .fsgnjnH rd rs1 rs2 => Sys2Proof.Machine.execFsgnjnH rd rs1 rs2 s
  | .fsgnjxH rd rs1 rs2 => Sys2Proof.Machine.execFsgnjxH rd rs1 rs2 s
  | .fmvXH rd rs1 => Sys2Proof.Machine.execFmvXH rd rs1 s
  | .fmvHX rd rs1 => Sys2Proof.Machine.execFmvHX rd rs1 s
  | .feqH rd rs1 rs2 => Sys2Proof.Machine.execFeqH rd rs1 rs2 s
  | .fltH rd rs1 rs2 => Sys2Proof.Machine.execFltH rd rs1 rs2 s
  | .fleH rd rs1 rs2 => Sys2Proof.Machine.execFleH rd rs1 rs2 s
  | .fclassH rd rs1 => Sys2Proof.Machine.execFclassH rd rs1 s
  | .fliS rd k => Sys2Proof.Machine.execFliS rd k s
  | .fliD rd k => Sys2Proof.Machine.execFliD rd k s
  | .fliH rd k => Sys2Proof.Machine.execFliH rd k s
  | .fliQ rd k => Sys2Proof.Machine.execFliQ rd k s
  | .fminmS rd rs1 rs2 => Sys2Proof.Machine.execFminmS rd rs1 rs2 s
  | .fmaxmS rd rs1 rs2 => Sys2Proof.Machine.execFmaxmS rd rs1 rs2 s
  | .fminmD rd rs1 rs2 => Sys2Proof.Machine.execFminmD rd rs1 rs2 s
  | .fmaxmD rd rs1 rs2 => Sys2Proof.Machine.execFmaxmD rd rs1 rs2 s
  | .fminmH rd rs1 rs2 => Sys2Proof.Machine.execFminmH rd rs1 rs2 s
  | .fmaxmH rd rs1 rs2 => Sys2Proof.Machine.execFmaxmH rd rs1 rs2 s
  | .fminmQ rd rs1 rs2 => Sys2Proof.Machine.execFminmQ rd rs1 rs2 s
  | .fmaxmQ rd rs1 rs2 => Sys2Proof.Machine.execFmaxmQ rd rs1 rs2 s
  | .froundS rd rs1 rm => Sys2Proof.Machine.execFroundS rd rs1 rm s
  | .froundnxS rd rs1 rm => Sys2Proof.Machine.execFroundnxS rd rs1 rm s
  | .froundD rd rs1 rm => Sys2Proof.Machine.execFroundD rd rs1 rm s
  | .froundnxD rd rs1 rm => Sys2Proof.Machine.execFroundnxD rd rs1 rm s
  | .froundH rd rs1 rm => Sys2Proof.Machine.execFroundH rd rs1 rm s
  | .froundnxH rd rs1 rm => Sys2Proof.Machine.execFroundnxH rd rs1 rm s
  | .froundQ rd rs1 rm => Sys2Proof.Machine.execFroundQ rd rs1 rm s
  | .froundnxQ rd rs1 rm => Sys2Proof.Machine.execFroundnxQ rd rs1 rm s
  | .fcvtmodWD rd rs1 => Sys2Proof.Machine.execFcvtmodWD rd rs1 s
  | .fmvhXD rd rs1 => Sys2Proof.Machine.execFmvhXD rd rs1 s
  | .fmvpDX rd rs1 rs2 => Sys2Proof.Machine.execFmvpDX rd rs1 rs2 s
  | .fmvhXQ rd rs1 => Sys2Proof.Machine.execFmvhXQ rd rs1 s
  | .fmvpQX rd rs1 rs2 => Sys2Proof.Machine.execFmvpQX rd rs1 rs2 s
  | .fleqS rd rs1 rs2 => Sys2Proof.Machine.execFleqS rd rs1 rs2 s
  | .fltqS rd rs1 rs2 => Sys2Proof.Machine.execFltqS rd rs1 rs2 s
  | .fleqD rd rs1 rs2 => Sys2Proof.Machine.execFleqD rd rs1 rs2 s
  | .fltqD rd rs1 rs2 => Sys2Proof.Machine.execFltqD rd rs1 rs2 s
  | .fleqH rd rs1 rs2 => Sys2Proof.Machine.execFleqH rd rs1 rs2 s
  | .fltqH rd rs1 rs2 => Sys2Proof.Machine.execFltqH rd rs1 rs2 s
  | .fleqQ rd rs1 rs2 => Sys2Proof.Machine.execFleqQ rd rs1 rs2 s
  | .fltqQ rd rs1 rs2 => Sys2Proof.Machine.execFltqQ rd rs1 rs2 s
  | .fcvtBf16S rd rs1 rm => Sys2Proof.Machine.execFcvtBf16S rd rs1 rm s
  | .fcvtSBf16 rd rs1 rm => Sys2Proof.Machine.execFcvtSBf16 rd rs1 rm s
  | .csrrw rd csr rs1 => Sys2Proof.Machine.execCsrrw rd csr rs1 s
  | .csrrs rd csr rs1 => Sys2Proof.Machine.execCsrrs rd csr rs1 s
  | .csrrc rd csr rs1 => Sys2Proof.Machine.execCsrrc rd csr rs1 s
  | .csrrwi rd csr uimm => Sys2Proof.Machine.execCsrrwi rd csr uimm s
  | .csrrsi rd csr uimm => Sys2Proof.Machine.execCsrrsi rd csr uimm s
  | .csrrci rd csr uimm => Sys2Proof.Machine.execCsrrci rd csr uimm s

end Sys2Proof.Machine
end

