-- ==== Sys2Proof/WellFormed.lean ====
section
/-!
DEFINITION. What a well-formed configuration and a well-formed instruction are: one named check each, a Bool.
A configuration that breaks 00_scope.md R3 or R4 is not a configuration of this hardware.
An instruction is well-formed when its word is neither reserved in every state (a static reserved rounding mode,
30_encoding.md R108) nor outside the spec (a CSR number other than the three of 10_state.md R32).
-/

namespace Sys2Proof

/-- D depends on F (00_scope.md R3). -/
def ExtSet.dNeedsF (e : ExtSet) : Bool := !e.d || e.f

/-- Q depends on D (R3). -/
def ExtSet.qNeedsD (e : ExtSet) : Bool := !e.q || e.d

/-- Zfh depends on F (R3). -/
def ExtSet.zfhNeedsF (e : ExtSet) : Bool := !e.zfh || e.f

/-- Zfhmin depends on F (R3). -/
def ExtSet.zfhminNeedsF (e : ExtSet) : Bool := !e.zfhmin || e.f

/-- Zfa depends on F (R3). -/
def ExtSet.zfaNeedsF (e : ExtSet) : Bool := !e.zfa || e.f

/-- Zfbfmin depends on F (R3). -/
def ExtSet.zfbfminNeedsF (e : ExtSet) : Bool := !e.zfbfmin || e.f

/-- Zdinx depends on Zfinx (R3). -/
def ExtSet.zdinxNeedsZfinx (e : ExtSet) : Bool := !e.zdinx || e.zfinx

/-- Zhinx depends on Zfinx (R3). -/
def ExtSet.zhinxNeedsZfinx (e : ExtSet) : Bool := !e.zhinx || e.zfinx

/-- Zhinxmin depends on Zfinx (R3). -/
def ExtSet.zhinxminNeedsZfinx (e : ExtSet) : Bool := !e.zhinxmin || e.zfinx

/-- The x-register family and the f-register family exclude each other (R4). -/
def ExtSet.familiesExclude (e : ExtSet) : Bool :=
  !((e.zfinx || e.zdinx || e.zhinx || e.zhinxmin) &&
    (e.f || e.d || e.q || e.zfh || e.zfhmin || e.zfa || e.zfbfmin))

/-- R3 and R4 hold. -/
def ExtSet.wf (e : ExtSet) : Bool :=
  e.dNeedsF && e.qNeedsD && e.zfhNeedsF && e.zfhminNeedsF && e.zfaNeedsF && e.zfbfminNeedsF &&
  e.zdinxNeedsZfinx && e.zhinxNeedsZfinx && e.zhinxminNeedsZfinx && e.familiesExclude

/-- The size of the address space, 2^XLEN (20_memory.md R60). -/
def Xlen.space : Xlen → Nat
  | .rv32 => 2 ^ 32
  | .rv64 => 2 ^ 64

/-- The program text is a range of whole words inside the address space, without a wrap (60_exceptions.md R529): it is
shorter than the address space, so the pc after its last instruction is no pc of the text (DEDUCED, log 6). -/
def Config.textWf (c : Config) : Bool :=
  c.progBase % 4 == 0 && c.progEnd % 4 == 0 && decide (c.progBase ≤ c.progEnd) && decide (c.progEnd ≤ c.xlen.space) &&
    decide (c.progEnd - c.progBase < c.xlen.space)

/-- A configuration of this hardware. -/
def Config.wf (c : Config) : Bool := c.ext.wf && c.textWf

/-- A `csr` field in scope: fflags 0x001, frm 0x002, fcsr 0x003 (10_state.md R32). -/
def csrInScope (csr : BitVec 12) : Bool := csr == 0x001#12 || csr == 0x002#12 || csr == 0x003#12

/-- An `rm` field that is not statically reserved: neither 101 nor 110 (30_encoding.md R99, R108). -/
def rmAllocated (rm : BitVec 3) : Bool := rm != 0b101#3 && rm != 0b110#3

/-- An instruction whose fields are all allocated. -/
def Instr.wf : Instr → Bool
  | .flw _ _ _ => true
  | .fsw _ _ _ => true
  | .faddS _ _ _ rm => rmAllocated rm
  | .fsubS _ _ _ rm => rmAllocated rm
  | .fmulS _ _ _ rm => rmAllocated rm
  | .fdivS _ _ _ rm => rmAllocated rm
  | .fsqrtS _ _ rm => rmAllocated rm
  | .fminS _ _ _ => true
  | .fmaxS _ _ _ => true
  | .fmaddS _ _ _ _ rm => rmAllocated rm
  | .fmsubS _ _ _ _ rm => rmAllocated rm
  | .fnmsubS _ _ _ _ rm => rmAllocated rm
  | .fnmaddS _ _ _ _ rm => rmAllocated rm
  | .fcvtWS _ _ rm => rmAllocated rm
  | .fcvtWuS _ _ rm => rmAllocated rm
  | .fcvtLS _ _ rm => rmAllocated rm
  | .fcvtLuS _ _ rm => rmAllocated rm
  | .fcvtSW _ _ rm => rmAllocated rm
  | .fcvtSWu _ _ rm => rmAllocated rm
  | .fcvtSL _ _ rm => rmAllocated rm
  | .fcvtSLu _ _ rm => rmAllocated rm
  | .fsgnjS _ _ _ => true
  | .fsgnjnS _ _ _ => true
  | .fsgnjxS _ _ _ => true
  | .fmvXW _ _ => true
  | .fmvWX _ _ => true
  | .feqS _ _ _ => true
  | .fltS _ _ _ => true
  | .fleS _ _ _ => true
  | .fclassS _ _ => true
  | .fld _ _ _ => true
  | .fsd _ _ _ => true
  | .faddD _ _ _ rm => rmAllocated rm
  | .fsubD _ _ _ rm => rmAllocated rm
  | .fmulD _ _ _ rm => rmAllocated rm
  | .fdivD _ _ _ rm => rmAllocated rm
  | .fsqrtD _ _ rm => rmAllocated rm
  | .fminD _ _ _ => true
  | .fmaxD _ _ _ => true
  | .fmaddD _ _ _ _ rm => rmAllocated rm
  | .fmsubD _ _ _ _ rm => rmAllocated rm
  | .fnmsubD _ _ _ _ rm => rmAllocated rm
  | .fnmaddD _ _ _ _ rm => rmAllocated rm
  | .fcvtWD _ _ rm => rmAllocated rm
  | .fcvtWuD _ _ rm => rmAllocated rm
  | .fcvtLD _ _ rm => rmAllocated rm
  | .fcvtLuD _ _ rm => rmAllocated rm
  | .fcvtDW _ _ rm => rmAllocated rm
  | .fcvtDWu _ _ rm => rmAllocated rm
  | .fcvtDL _ _ rm => rmAllocated rm
  | .fcvtDLu _ _ rm => rmAllocated rm
  | .fcvtSD _ _ rm => rmAllocated rm
  | .fcvtDS _ _ rm => rmAllocated rm
  | .fsgnjD _ _ _ => true
  | .fsgnjnD _ _ _ => true
  | .fsgnjxD _ _ _ => true
  | .fmvXD _ _ => true
  | .fmvDX _ _ => true
  | .feqD _ _ _ => true
  | .fltD _ _ _ => true
  | .fleD _ _ _ => true
  | .fclassD _ _ => true
  | .flq _ _ _ => true
  | .fsq _ _ _ => true
  | .faddQ _ _ _ rm => rmAllocated rm
  | .fsubQ _ _ _ rm => rmAllocated rm
  | .fmulQ _ _ _ rm => rmAllocated rm
  | .fdivQ _ _ _ rm => rmAllocated rm
  | .fsqrtQ _ _ rm => rmAllocated rm
  | .fminQ _ _ _ => true
  | .fmaxQ _ _ _ => true
  | .fmaddQ _ _ _ _ rm => rmAllocated rm
  | .fmsubQ _ _ _ _ rm => rmAllocated rm
  | .fnmsubQ _ _ _ _ rm => rmAllocated rm
  | .fnmaddQ _ _ _ _ rm => rmAllocated rm
  | .fcvtWQ _ _ rm => rmAllocated rm
  | .fcvtWuQ _ _ rm => rmAllocated rm
  | .fcvtLQ _ _ rm => rmAllocated rm
  | .fcvtLuQ _ _ rm => rmAllocated rm
  | .fcvtQW _ _ rm => rmAllocated rm
  | .fcvtQWu _ _ rm => rmAllocated rm
  | .fcvtQL _ _ rm => rmAllocated rm
  | .fcvtQLu _ _ rm => rmAllocated rm
  | .fcvtSQ _ _ rm => rmAllocated rm
  | .fcvtQS _ _ rm => rmAllocated rm
  | .fcvtDQ _ _ rm => rmAllocated rm
  | .fcvtQD _ _ rm => rmAllocated rm
  | .fsgnjQ _ _ _ => true
  | .fsgnjnQ _ _ _ => true
  | .fsgnjxQ _ _ _ => true
  | .feqQ _ _ _ => true
  | .fltQ _ _ _ => true
  | .fleQ _ _ _ => true
  | .fclassQ _ _ => true
  | .flh _ _ _ => true
  | .fsh _ _ _ => true
  | .faddH _ _ _ rm => rmAllocated rm
  | .fsubH _ _ _ rm => rmAllocated rm
  | .fmulH _ _ _ rm => rmAllocated rm
  | .fdivH _ _ _ rm => rmAllocated rm
  | .fsqrtH _ _ rm => rmAllocated rm
  | .fminH _ _ _ => true
  | .fmaxH _ _ _ => true
  | .fmaddH _ _ _ _ rm => rmAllocated rm
  | .fmsubH _ _ _ _ rm => rmAllocated rm
  | .fnmsubH _ _ _ _ rm => rmAllocated rm
  | .fnmaddH _ _ _ _ rm => rmAllocated rm
  | .fcvtWH _ _ rm => rmAllocated rm
  | .fcvtWuH _ _ rm => rmAllocated rm
  | .fcvtLH _ _ rm => rmAllocated rm
  | .fcvtLuH _ _ rm => rmAllocated rm
  | .fcvtHW _ _ rm => rmAllocated rm
  | .fcvtHWu _ _ rm => rmAllocated rm
  | .fcvtHL _ _ rm => rmAllocated rm
  | .fcvtHLu _ _ rm => rmAllocated rm
  | .fcvtSH _ _ rm => rmAllocated rm
  | .fcvtHS _ _ rm => rmAllocated rm
  | .fcvtDH _ _ rm => rmAllocated rm
  | .fcvtHD _ _ rm => rmAllocated rm
  | .fcvtQH _ _ rm => rmAllocated rm
  | .fcvtHQ _ _ rm => rmAllocated rm
  | .fsgnjH _ _ _ => true
  | .fsgnjnH _ _ _ => true
  | .fsgnjxH _ _ _ => true
  | .fmvXH _ _ => true
  | .fmvHX _ _ => true
  | .feqH _ _ _ => true
  | .fltH _ _ _ => true
  | .fleH _ _ _ => true
  | .fclassH _ _ => true
  | .fliS _ _ => true
  | .fliD _ _ => true
  | .fliH _ _ => true
  | .fliQ _ _ => true
  | .fminmS _ _ _ => true
  | .fmaxmS _ _ _ => true
  | .fminmD _ _ _ => true
  | .fmaxmD _ _ _ => true
  | .fminmH _ _ _ => true
  | .fmaxmH _ _ _ => true
  | .fminmQ _ _ _ => true
  | .fmaxmQ _ _ _ => true
  | .froundS _ _ rm => rmAllocated rm
  | .froundnxS _ _ rm => rmAllocated rm
  | .froundD _ _ rm => rmAllocated rm
  | .froundnxD _ _ rm => rmAllocated rm
  | .froundH _ _ rm => rmAllocated rm
  | .froundnxH _ _ rm => rmAllocated rm
  | .froundQ _ _ rm => rmAllocated rm
  | .froundnxQ _ _ rm => rmAllocated rm
  | .fcvtmodWD _ _ => true
  | .fmvhXD _ _ => true
  | .fmvpDX _ _ _ => true
  | .fmvhXQ _ _ => true
  | .fmvpQX _ _ _ => true
  | .fleqS _ _ _ => true
  | .fltqS _ _ _ => true
  | .fleqD _ _ _ => true
  | .fltqD _ _ _ => true
  | .fleqH _ _ _ => true
  | .fltqH _ _ _ => true
  | .fleqQ _ _ _ => true
  | .fltqQ _ _ _ => true
  | .fcvtBf16S _ _ rm => rmAllocated rm
  | .fcvtSBf16 _ _ rm => rmAllocated rm
  | .csrrw _ csr _ => csrInScope csr
  | .csrrs _ csr _ => csrInScope csr
  | .csrrc _ csr _ => csrInScope csr
  | .csrrwi _ csr _ => csrInScope csr
  | .csrrsi _ csr _ => csrInScope csr
  | .csrrci _ csr _ => csrInScope csr

end Sys2Proof
end

