-- ==== Sys2Proof/Machine/Fetch.lean ====
section
/-!
DEFINITION. Fetching: the end of a run, the word at the pc, and the placing of a word there (20_memory.md R67,
30_encoding.md R90, 60_exceptions.md R520, R529).
-/

namespace Sys2Proof.Machine

/-- The pc is a multiple of 4 (20_memory.md R67). -/
def pcAligned (s : State) : Bool := s.pc.toNat % 4 == 0

/-- `Final`: the pc equals PROG_END (60_exceptions.md R529), compared as pcs: a text that ends at 2^XLEN ends at pc 0,
where the pc wraps to (10_state.md R23; DEDUCED, log 6). No well-formed text both starts at 0 and ends at 2^XLEN
(`Config.textWf`), so the end is no pc of the text. -/
def isFinal (s : State) : Bool := s.pc.toNat == s.cfg.progEnd % 2 ^ s.xlen

/-- All four bytes of the instruction are in MEM (60_exceptions.md R520). -/
def fetchMapped (s : State) : Bool := s.allMapped s.pc 4

/-- `I = MemRead(pc, 4)` (30_encoding.md R90). -/
def fetchWord (s : State) : Word :=
  wordOfBytes (memRead s.mem (s.byteAddr s.pc 0)) (memRead s.mem (s.byteAddr s.pc 1))
    (memRead s.mem (s.byteAddr s.pc 2)) (memRead s.mem (s.byteAddr s.pc 3))

/-- Memory with the four bytes of a word at an address, little-endian. -/
def placeBytes (m : List Host.Cell) (a : Nat) (w : Word) : List Host.Cell :=
  memWrite (memWrite (memWrite (memWrite m a (w.extractLsb' 0 8)) (a + 1) (w.extractLsb' 8 8))
    (a + 2) (w.extractLsb' 16 8)) (a + 3) (w.extractLsb' 24 8)

/-- The state whose program text is the one word `w` at the pc; a range for it joins the domain of MEM when the
domain lacks one of its bytes. -/
def placeWord (s : State) (w : Word) : State :=
  let a := s.pc.toNat
  { s with
    mem := placeBytes s.mem a w
    cfg := { s.cfg with
      progBase := a
      progEnd := a + 4
      regions := if s.allMapped s.pc 4 then s.cfg.regions else ⟨a, 4⟩ :: s.cfg.regions } }

end Sys2Proof.Machine
end

