-- ==== Sys2Proof/Machine/Step.lean ====
section
/-!
DEFINITION. The step of the hart (00_scope.md R8), and the placing of one instruction where the next step fetches.
-/

namespace Sys2Proof.Machine

/-- What a decoded word does (30_encoding.md R106, R107; 60_exceptions.md R529). -/
def perform (d : Decoded) (s : State) : Host.Outcome State Fault Refusal :=
  match d with
  | .instr i => exec i s
  | .illegal w => raise (.illegalInstruction w) s
  | .outOfScope w => .refused (.outOfScopeWord w)

/-- One step: a configuration that is none of this hardware's and a misaligned pc are refused (60_exceptions.md R529,
20_memory.md R67); at PROG_END the run is over and the state stays (DESIGN CHOICE, log 6); else fetch, decode and
perform (00_scope.md R8, 60_exceptions.md R520). -/
def step (s : State) : Host.Outcome State Fault Refusal :=
  if !s.cfg.wf then .refused .illFormedConfig
  else if !pcAligned s then .refused (.misalignedPc s.pc)
  else if isFinal s then .next s
  else if fetchMapped s then perform (decode (fetchWord s)) s
  else raise (.instructionAccessFault s.pc) s

/-- The state with the instruction `w` (its bits from `nbits` up taken as 0) as its whole program text, at the pc: it
stands for the launch of a one-instruction program (log 7). -/
def State.withFetchWord (s : State) (nbits w : Nat) : State := placeWord s (BitVec.ofNat 32 (w % 2 ^ min nbits 32))

end Sys2Proof.Machine
end

