-- ==== Sys2Proof/Machine/Launch.lean ====
section
/-!
DEFINITION. The launch: what the host fixes before a run (00_scope.md R5, 60_exceptions.md R529, 70_reset_and_hazards.md
R564), and the state it starts, or the premise it breaks.
-/

namespace Sys2Proof.Machine

/-- The launch inputs of 00_scope.md R5: configuration, MEM, PROG and INIT. -/
structure Launch where
  /-- any number; the launch is refused unless it is 32 or 64 (92_eei_decisions.md D1) -/
  xlen       : Nat
  ext        : ExtSet
  misaligned : Misaligned
  fsOn       : Bool
  /-- the domain of MEM -/
  regions    : List Region
  /-- the bytes of MEM that are not `unlistedByte`, in any order, later entries over earlier ones -/
  bytes      : List Host.Cell
  progBase   : Nat
  progEnd    : Nat
  pc         : XWord
  x          : Vector XWord 32
  f          : Vector FWord 32
  frm        : BitVec 3
  fflags     : FlagSet
deriving DecidableEq, Repr

/-- The XLEN a number names (92_eei_decisions.md D1). -/
def xlenOf (n : Nat) : Option Xlen := if n = 32 then some .rv32 else if n = 64 then some .rv64 else none

/-- The configuration of a launch. -/
def Launch.config (l : Launch) (xl : Xlen) : Config :=
  { xlen := xl, ext := l.ext, misaligned := l.misaligned, fsOn := l.fsOn, regions := l.regions,
    progBase := l.progBase, progEnd := l.progEnd }

/-- The state a launch starts, before its premises are checked; registers and the pc are cut to their widths, x0
is zero, and a byte outside the domain of MEM is no part of it. -/
def Launch.start (l : Launch) (xl : Xlen) : State :=
  let s : State :=
    { cfg := l.config xl, x := l.x, f := l.f, pc := l.pc, frm := l.frm, fflags := l.fflags,
      mem := [] }
  { s with
    pc := s.trunc l.pc
    x := (l.x.map s.trunc).set 0 0
    f := l.f.map s.truncF
    mem := (l.bytes.filter (fun c => s.mapped c.1)).foldl (fun m c => memWrite m c.1 c.2) [] }

/-- Whether every byte of the program text is in MEM, and the pc is in the text or at its end (60_exceptions.md
R529). -/
def textPremise (s : State) : Bool :=
  (List.range (s.cfg.progEnd - s.cfg.progBase)).all (fun k => s.mapped (s.cfg.progBase + k)) &&
    decide (s.cfg.progBase ≤ s.pc.toNat) && decide (s.pc.toNat ≤ s.cfg.progEnd)

/-- The launch: a state, or the premise it breaks (60_exceptions.md R529; 00_scope.md R3, R4; 20_memory.md R67). -/
def launch (l : Launch) : Outcome :=
  match xlenOf l.xlen with
  | none => .refused (.unsupportedXlen l.xlen)
  | some xl =>
    let s := l.start xl
    if !s.cfg.wf then .refused .illFormedConfig
    else if !pcAligned s then .refused (.misalignedPc s.pc)
    else if !textPremise s then .refused .textOutsideMemory
    else .next s

end Sys2Proof.Machine
end

