-- ==== Sys2Proof/Safety.lean ====
section
/-!
DEFINITION. The terms the statements use: what a safe step is, the invariant of the machine, the extensions and
registers an instruction needs, what each instruction may write, and the value of a number as a rational.
-/

namespace Sys2Proof.Machine

/-! ## Steps and runs -/

/-- A step that goes on. -/
def SafeStep (s : State) : Prop := ∃ t, step s = .next t

/-- The only successful end of a run (60_exceptions.md R529). -/
def Final (s : State) : Prop := isFinal s = true

/-- What every reachable state satisfies: memory in canonical form and inside MEM's domain, x0 zero, every register
and the pc cut to its width, the pc a multiple of 4, and a configuration of this hardware. -/
structure State.Inv (s : State) : Prop where
  cfgWf     : s.cfg.wf = true
  memWf     : Memory.wf s.mem = true
  memMapped : ∀ c ∈ s.mem, s.mapped c.1 = true
  x0        : s.x[0] = 0
  xWidth    : ∀ r : Reg, s.trunc s.x[r.toNat] = s.x[r.toNat]
  fWidth    : ∀ r : Reg, s.truncF s.f[r.toNat] = s.f[r.toNat]
  pcWidth   : s.trunc s.pc = s.pc
  pcAligned : pcAligned s = true

/-- A function applied to the state an outcome goes on with. -/
def mapNext (g : State → State) : Outcome → Outcome
  | .next s => .next (g s)
  | .fault r => .fault r
  | .refused r => .refused r

/-- The state with other f registers. -/
def State.withF (s : State) (f : Vector FWord 32) : State := { s with f := f }

/-- The refusal or fault of an illegal instruction: it carries the instruction's word and the pc (60_exceptions.md
R515, R517). -/
def illegalOutcome (i : Instr) (s : State) : Outcome := .fault (.trap (.illegalInstruction (encode i)) s.pc)

/-! ## What an instruction needs (00_scope.md R6) -/

/-- Single-precision arithmetic: F or Zfinx. -/
def hasS (s : State) : Bool := s.cfg.ext.f || s.cfg.ext.zfinx

/-- Double-precision arithmetic: D or Zdinx. -/
def hasD (s : State) : Bool := s.cfg.ext.d || s.cfg.ext.zdinx

/-- Quad-precision arithmetic: Q. -/
def hasQ (s : State) : Bool := s.cfg.ext.q

/-- Half-precision arithmetic: Zfh or Zhinx. -/
def hasH (s : State) : Bool := s.cfg.ext.zfh || s.cfg.ext.zhinx

/-- Conversions between H and S: Zfh, Zfhmin, Zhinx or Zhinxmin. -/
def hasHmin (s : State) : Bool := s.cfg.ext.zfh || s.cfg.ext.zfhmin || s.cfg.ext.zhinx || s.cfg.ext.zhinxmin

/-- Conversions between H and D. -/
def hasHD (s : State) : Bool :=
  ((s.cfg.ext.zfh || s.cfg.ext.zfhmin) && s.cfg.ext.d) || ((s.cfg.ext.zhinx || s.cfg.ext.zhinxmin) && s.cfg.ext.zdinx)

/-- Conversions between H and Q. -/
def hasHQ (s : State) : Bool := (s.cfg.ext.zfh || s.cfg.ext.zfhmin) && s.cfg.ext.q

/-- 16-bit transfers: Zfh, Zfhmin or Zfbfmin. -/
def hasHTransfer (s : State) : Bool := s.cfg.ext.zfh || s.cfg.ext.zfhmin || s.cfg.ext.zfbfmin

/-- Whether the registers that name doubles are even where they must be: on RV32 with Zdinx (30_encoding.md R111). -/
def pairsOk (s : State) (rs : List Reg) : Bool :=
  !(s.cfg.xlen == .rv32 && s.cfg.ext.zdinx) || rs.all (fun r => r.toNat % 2 == 0)

/-! ## Next states -/

/-- The next state of an instruction with a floating-point result. -/
def fpDone (s : State) (fmt : Fmt) (rd : Reg) (r : Result fmt) : State := ((s.writeFp fmt rd r.1).accrue r.2).retire

/-- The next state of an instruction with an integer result. -/
def xDone (s : State) (rd : Reg) (v : XWord) (fl : FlagSet) : State := ((s.writeX rd v).accrue fl).retire

/-- The next state of an instruction that writes an f register and no flag. -/
def fDone (s : State) (rd : Reg) (v : FWord) : State := (s.writeF rd v).retire

/-! ## What an instruction may write -/

/-- The destination of an instruction. -/
inductive Dest
  /-- a floating-point result of a format, in an f register or, under Zfinx, in an x register or pair -/
  | fp (fmt : Fmt) (rd : Reg)
  /-- an f register in every configuration -/
  | f (rd : Reg)
  /-- an integer register -/
  | x (rd : Reg)
  /-- the bytes of memory from an effective address on -/
  | mem (fmt : Fmt) (rs1 : Reg) (imm : BitVec 12)
  /-- an integer register and a CSR -/
  | csr (rd : Reg) (csr : BitVec 12)
deriving DecidableEq, Repr

/-- The destination of each instruction. -/
def dest : Instr → Dest
  | .flw rd _ _ => .f rd
  | .fsw _ rs1 imm => .mem .s rs1 imm
  | .faddS rd _ _ _ => .fp .s rd
  | .fsubS rd _ _ _ => .fp .s rd
  | .fmulS rd _ _ _ => .fp .s rd
  | .fdivS rd _ _ _ => .fp .s rd
  | .fsqrtS rd _ _ => .fp .s rd
  | .fminS rd _ _ => .fp .s rd
  | .fmaxS rd _ _ => .fp .s rd
  | .fmaddS rd _ _ _ _ => .fp .s rd
  | .fmsubS rd _ _ _ _ => .fp .s rd
  | .fnmsubS rd _ _ _ _ => .fp .s rd
  | .fnmaddS rd _ _ _ _ => .fp .s rd
  | .fcvtWS rd _ _ => .x rd
  | .fcvtWuS rd _ _ => .x rd
  | .fcvtLS rd _ _ => .x rd
  | .fcvtLuS rd _ _ => .x rd
  | .fcvtSW rd _ _ => .fp .s rd
  | .fcvtSWu rd _ _ => .fp .s rd
  | .fcvtSL rd _ _ => .fp .s rd
  | .fcvtSLu rd _ _ => .fp .s rd
  | .fsgnjS rd _ _ => .fp .s rd
  | .fsgnjnS rd _ _ => .fp .s rd
  | .fsgnjxS rd _ _ => .fp .s rd
  | .fmvXW rd _ => .x rd
  | .fmvWX rd _ => .f rd
  | .feqS rd _ _ => .x rd
  | .fltS rd _ _ => .x rd
  | .fleS rd _ _ => .x rd
  | .fclassS rd _ => .x rd
  | .fld rd _ _ => .f rd
  | .fsd _ rs1 imm => .mem .d rs1 imm
  | .faddD rd _ _ _ => .fp .d rd
  | .fsubD rd _ _ _ => .fp .d rd
  | .fmulD rd _ _ _ => .fp .d rd
  | .fdivD rd _ _ _ => .fp .d rd
  | .fsqrtD rd _ _ => .fp .d rd
  | .fminD rd _ _ => .fp .d rd
  | .fmaxD rd _ _ => .fp .d rd
  | .fmaddD rd _ _ _ _ => .fp .d rd
  | .fmsubD rd _ _ _ _ => .fp .d rd
  | .fnmsubD rd _ _ _ _ => .fp .d rd
  | .fnmaddD rd _ _ _ _ => .fp .d rd
  | .fcvtWD rd _ _ => .x rd
  | .fcvtWuD rd _ _ => .x rd
  | .fcvtLD rd _ _ => .x rd
  | .fcvtLuD rd _ _ => .x rd
  | .fcvtDW rd _ _ => .fp .d rd
  | .fcvtDWu rd _ _ => .fp .d rd
  | .fcvtDL rd _ _ => .fp .d rd
  | .fcvtDLu rd _ _ => .fp .d rd
  | .fcvtSD rd _ _ => .fp .s rd
  | .fcvtDS rd _ _ => .fp .d rd
  | .fsgnjD rd _ _ => .fp .d rd
  | .fsgnjnD rd _ _ => .fp .d rd
  | .fsgnjxD rd _ _ => .fp .d rd
  | .fmvXD rd _ => .x rd
  | .fmvDX rd _ => .f rd
  | .feqD rd _ _ => .x rd
  | .fltD rd _ _ => .x rd
  | .fleD rd _ _ => .x rd
  | .fclassD rd _ => .x rd
  | .flq rd _ _ => .f rd
  | .fsq _ rs1 imm => .mem .q rs1 imm
  | .faddQ rd _ _ _ => .fp .q rd
  | .fsubQ rd _ _ _ => .fp .q rd
  | .fmulQ rd _ _ _ => .fp .q rd
  | .fdivQ rd _ _ _ => .fp .q rd
  | .fsqrtQ rd _ _ => .fp .q rd
  | .fminQ rd _ _ => .fp .q rd
  | .fmaxQ rd _ _ => .fp .q rd
  | .fmaddQ rd _ _ _ _ => .fp .q rd
  | .fmsubQ rd _ _ _ _ => .fp .q rd
  | .fnmsubQ rd _ _ _ _ => .fp .q rd
  | .fnmaddQ rd _ _ _ _ => .fp .q rd
  | .fcvtWQ rd _ _ => .x rd
  | .fcvtWuQ rd _ _ => .x rd
  | .fcvtLQ rd _ _ => .x rd
  | .fcvtLuQ rd _ _ => .x rd
  | .fcvtQW rd _ _ => .fp .q rd
  | .fcvtQWu rd _ _ => .fp .q rd
  | .fcvtQL rd _ _ => .fp .q rd
  | .fcvtQLu rd _ _ => .fp .q rd
  | .fcvtSQ rd _ _ => .fp .s rd
  | .fcvtQS rd _ _ => .fp .q rd
  | .fcvtDQ rd _ _ => .fp .d rd
  | .fcvtQD rd _ _ => .fp .q rd
  | .fsgnjQ rd _ _ => .fp .q rd
  | .fsgnjnQ rd _ _ => .fp .q rd
  | .fsgnjxQ rd _ _ => .fp .q rd
  | .feqQ rd _ _ => .x rd
  | .fltQ rd _ _ => .x rd
  | .fleQ rd _ _ => .x rd
  | .fclassQ rd _ => .x rd
  | .flh rd _ _ => .f rd
  | .fsh _ rs1 imm => .mem .h rs1 imm
  | .faddH rd _ _ _ => .fp .h rd
  | .fsubH rd _ _ _ => .fp .h rd
  | .fmulH rd _ _ _ => .fp .h rd
  | .fdivH rd _ _ _ => .fp .h rd
  | .fsqrtH rd _ _ => .fp .h rd
  | .fminH rd _ _ => .fp .h rd
  | .fmaxH rd _ _ => .fp .h rd
  | .fmaddH rd _ _ _ _ => .fp .h rd
  | .fmsubH rd _ _ _ _ => .fp .h rd
  | .fnmsubH rd _ _ _ _ => .fp .h rd
  | .fnmaddH rd _ _ _ _ => .fp .h rd
  | .fcvtWH rd _ _ => .x rd
  | .fcvtWuH rd _ _ => .x rd
  | .fcvtLH rd _ _ => .x rd
  | .fcvtLuH rd _ _ => .x rd
  | .fcvtHW rd _ _ => .fp .h rd
  | .fcvtHWu rd _ _ => .fp .h rd
  | .fcvtHL rd _ _ => .fp .h rd
  | .fcvtHLu rd _ _ => .fp .h rd
  | .fcvtSH rd _ _ => .fp .s rd
  | .fcvtHS rd _ _ => .fp .h rd
  | .fcvtDH rd _ _ => .fp .d rd
  | .fcvtHD rd _ _ => .fp .h rd
  | .fcvtQH rd _ _ => .fp .q rd
  | .fcvtHQ rd _ _ => .fp .h rd
  | .fsgnjH rd _ _ => .fp .h rd
  | .fsgnjnH rd _ _ => .fp .h rd
  | .fsgnjxH rd _ _ => .fp .h rd
  | .fmvXH rd _ => .x rd
  | .fmvHX rd _ => .f rd
  | .feqH rd _ _ => .x rd
  | .fltH rd _ _ => .x rd
  | .fleH rd _ _ => .x rd
  | .fclassH rd _ => .x rd
  | .fliS rd _ => .f rd
  | .fliD rd _ => .f rd
  | .fliH rd _ => .f rd
  | .fliQ rd _ => .f rd
  | .fminmS rd _ _ => .fp .s rd
  | .fmaxmS rd _ _ => .fp .s rd
  | .fminmD rd _ _ => .fp .d rd
  | .fmaxmD rd _ _ => .fp .d rd
  | .fminmH rd _ _ => .fp .h rd
  | .fmaxmH rd _ _ => .fp .h rd
  | .fminmQ rd _ _ => .fp .q rd
  | .fmaxmQ rd _ _ => .fp .q rd
  | .froundS rd _ _ => .fp .s rd
  | .froundnxS rd _ _ => .fp .s rd
  | .froundD rd _ _ => .fp .d rd
  | .froundnxD rd _ _ => .fp .d rd
  | .froundH rd _ _ => .fp .h rd
  | .froundnxH rd _ _ => .fp .h rd
  | .froundQ rd _ _ => .fp .q rd
  | .froundnxQ rd _ _ => .fp .q rd
  | .fcvtmodWD rd _ => .x rd
  | .fmvhXD rd _ => .x rd
  | .fmvpDX rd _ _ => .f rd
  | .fmvhXQ rd _ => .x rd
  | .fmvpQX rd _ _ => .f rd
  | .fleqS rd _ _ => .x rd
  | .fltqS rd _ _ => .x rd
  | .fleqD rd _ _ => .x rd
  | .fltqD rd _ _ => .x rd
  | .fleqH rd _ _ => .x rd
  | .fltqH rd _ _ => .x rd
  | .fleqQ rd _ _ => .x rd
  | .fltqQ rd _ _ => .x rd
  | .fcvtBf16S rd _ _ => .fp .bf16 rd
  | .fcvtSBf16 rd _ _ => .fp .s rd
  | .csrrw rd csr _ => .csr rd csr
  | .csrrs rd csr _ => .csr rd csr
  | .csrrc rd csr _ => .csr rd csr
  | .csrrwi rd csr _ => .csr rd csr
  | .csrrsi rd csr _ => .csr rd csr
  | .csrrci rd csr _ => .csr rd csr

/-- The instruction with another `rd`; a store has none. -/
def withRd (r : Reg) : Instr → Instr
  | .flw _ rs1 imm => .flw r rs1 imm
  | .fsw rs2 rs1 imm => .fsw rs2 rs1 imm
  | .faddS _ rs1 rs2 rm => .faddS r rs1 rs2 rm
  | .fsubS _ rs1 rs2 rm => .fsubS r rs1 rs2 rm
  | .fmulS _ rs1 rs2 rm => .fmulS r rs1 rs2 rm
  | .fdivS _ rs1 rs2 rm => .fdivS r rs1 rs2 rm
  | .fsqrtS _ rs1 rm => .fsqrtS r rs1 rm
  | .fminS _ rs1 rs2 => .fminS r rs1 rs2
  | .fmaxS _ rs1 rs2 => .fmaxS r rs1 rs2
  | .fmaddS _ rs1 rs2 rs3 rm => .fmaddS r rs1 rs2 rs3 rm
  | .fmsubS _ rs1 rs2 rs3 rm => .fmsubS r rs1 rs2 rs3 rm
  | .fnmsubS _ rs1 rs2 rs3 rm => .fnmsubS r rs1 rs2 rs3 rm
  | .fnmaddS _ rs1 rs2 rs3 rm => .fnmaddS r rs1 rs2 rs3 rm
  | .fcvtWS _ rs1 rm => .fcvtWS r rs1 rm
  | .fcvtWuS _ rs1 rm => .fcvtWuS r rs1 rm
  | .fcvtLS _ rs1 rm => .fcvtLS r rs1 rm
  | .fcvtLuS _ rs1 rm => .fcvtLuS r rs1 rm
  | .fcvtSW _ rs1 rm => .fcvtSW r rs1 rm
  | .fcvtSWu _ rs1 rm => .fcvtSWu r rs1 rm
  | .fcvtSL _ rs1 rm => .fcvtSL r rs1 rm
  | .fcvtSLu _ rs1 rm => .fcvtSLu r rs1 rm
  | .fsgnjS _ rs1 rs2 => .fsgnjS r rs1 rs2
  | .fsgnjnS _ rs1 rs2 => .fsgnjnS r rs1 rs2
  | .fsgnjxS _ rs1 rs2 => .fsgnjxS r rs1 rs2
  | .fmvXW _ rs1 => .fmvXW r rs1
  | .fmvWX _ rs1 => .fmvWX r rs1
  | .feqS _ rs1 rs2 => .feqS r rs1 rs2
  | .fltS _ rs1 rs2 => .fltS r rs1 rs2
  | .fleS _ rs1 rs2 => .fleS r rs1 rs2
  | .fclassS _ rs1 => .fclassS r rs1
  | .fld _ rs1 imm => .fld r rs1 imm
  | .fsd rs2 rs1 imm => .fsd rs2 rs1 imm
  | .faddD _ rs1 rs2 rm => .faddD r rs1 rs2 rm
  | .fsubD _ rs1 rs2 rm => .fsubD r rs1 rs2 rm
  | .fmulD _ rs1 rs2 rm => .fmulD r rs1 rs2 rm
  | .fdivD _ rs1 rs2 rm => .fdivD r rs1 rs2 rm
  | .fsqrtD _ rs1 rm => .fsqrtD r rs1 rm
  | .fminD _ rs1 rs2 => .fminD r rs1 rs2
  | .fmaxD _ rs1 rs2 => .fmaxD r rs1 rs2
  | .fmaddD _ rs1 rs2 rs3 rm => .fmaddD r rs1 rs2 rs3 rm
  | .fmsubD _ rs1 rs2 rs3 rm => .fmsubD r rs1 rs2 rs3 rm
  | .fnmsubD _ rs1 rs2 rs3 rm => .fnmsubD r rs1 rs2 rs3 rm
  | .fnmaddD _ rs1 rs2 rs3 rm => .fnmaddD r rs1 rs2 rs3 rm
  | .fcvtWD _ rs1 rm => .fcvtWD r rs1 rm
  | .fcvtWuD _ rs1 rm => .fcvtWuD r rs1 rm
  | .fcvtLD _ rs1 rm => .fcvtLD r rs1 rm
  | .fcvtLuD _ rs1 rm => .fcvtLuD r rs1 rm
  | .fcvtDW _ rs1 rm => .fcvtDW r rs1 rm
  | .fcvtDWu _ rs1 rm => .fcvtDWu r rs1 rm
  | .fcvtDL _ rs1 rm => .fcvtDL r rs1 rm
  | .fcvtDLu _ rs1 rm => .fcvtDLu r rs1 rm
  | .fcvtSD _ rs1 rm => .fcvtSD r rs1 rm
  | .fcvtDS _ rs1 rm => .fcvtDS r rs1 rm
  | .fsgnjD _ rs1 rs2 => .fsgnjD r rs1 rs2
  | .fsgnjnD _ rs1 rs2 => .fsgnjnD r rs1 rs2
  | .fsgnjxD _ rs1 rs2 => .fsgnjxD r rs1 rs2
  | .fmvXD _ rs1 => .fmvXD r rs1
  | .fmvDX _ rs1 => .fmvDX r rs1
  | .feqD _ rs1 rs2 => .feqD r rs1 rs2
  | .fltD _ rs1 rs2 => .fltD r rs1 rs2
  | .fleD _ rs1 rs2 => .fleD r rs1 rs2
  | .fclassD _ rs1 => .fclassD r rs1
  | .flq _ rs1 imm => .flq r rs1 imm
  | .fsq rs2 rs1 imm => .fsq rs2 rs1 imm
  | .faddQ _ rs1 rs2 rm => .faddQ r rs1 rs2 rm
  | .fsubQ _ rs1 rs2 rm => .fsubQ r rs1 rs2 rm
  | .fmulQ _ rs1 rs2 rm => .fmulQ r rs1 rs2 rm
  | .fdivQ _ rs1 rs2 rm => .fdivQ r rs1 rs2 rm
  | .fsqrtQ _ rs1 rm => .fsqrtQ r rs1 rm
  | .fminQ _ rs1 rs2 => .fminQ r rs1 rs2
  | .fmaxQ _ rs1 rs2 => .fmaxQ r rs1 rs2
  | .fmaddQ _ rs1 rs2 rs3 rm => .fmaddQ r rs1 rs2 rs3 rm
  | .fmsubQ _ rs1 rs2 rs3 rm => .fmsubQ r rs1 rs2 rs3 rm
  | .fnmsubQ _ rs1 rs2 rs3 rm => .fnmsubQ r rs1 rs2 rs3 rm
  | .fnmaddQ _ rs1 rs2 rs3 rm => .fnmaddQ r rs1 rs2 rs3 rm
  | .fcvtWQ _ rs1 rm => .fcvtWQ r rs1 rm
  | .fcvtWuQ _ rs1 rm => .fcvtWuQ r rs1 rm
  | .fcvtLQ _ rs1 rm => .fcvtLQ r rs1 rm
  | .fcvtLuQ _ rs1 rm => .fcvtLuQ r rs1 rm
  | .fcvtQW _ rs1 rm => .fcvtQW r rs1 rm
  | .fcvtQWu _ rs1 rm => .fcvtQWu r rs1 rm
  | .fcvtQL _ rs1 rm => .fcvtQL r rs1 rm
  | .fcvtQLu _ rs1 rm => .fcvtQLu r rs1 rm
  | .fcvtSQ _ rs1 rm => .fcvtSQ r rs1 rm
  | .fcvtQS _ rs1 rm => .fcvtQS r rs1 rm
  | .fcvtDQ _ rs1 rm => .fcvtDQ r rs1 rm
  | .fcvtQD _ rs1 rm => .fcvtQD r rs1 rm
  | .fsgnjQ _ rs1 rs2 => .fsgnjQ r rs1 rs2
  | .fsgnjnQ _ rs1 rs2 => .fsgnjnQ r rs1 rs2
  | .fsgnjxQ _ rs1 rs2 => .fsgnjxQ r rs1 rs2
  | .feqQ _ rs1 rs2 => .feqQ r rs1 rs2
  | .fltQ _ rs1 rs2 => .fltQ r rs1 rs2
  | .fleQ _ rs1 rs2 => .fleQ r rs1 rs2
  | .fclassQ _ rs1 => .fclassQ r rs1
  | .flh _ rs1 imm => .flh r rs1 imm
  | .fsh rs2 rs1 imm => .fsh rs2 rs1 imm
  | .faddH _ rs1 rs2 rm => .faddH r rs1 rs2 rm
  | .fsubH _ rs1 rs2 rm => .fsubH r rs1 rs2 rm
  | .fmulH _ rs1 rs2 rm => .fmulH r rs1 rs2 rm
  | .fdivH _ rs1 rs2 rm => .fdivH r rs1 rs2 rm
  | .fsqrtH _ rs1 rm => .fsqrtH r rs1 rm
  | .fminH _ rs1 rs2 => .fminH r rs1 rs2
  | .fmaxH _ rs1 rs2 => .fmaxH r rs1 rs2
  | .fmaddH _ rs1 rs2 rs3 rm => .fmaddH r rs1 rs2 rs3 rm
  | .fmsubH _ rs1 rs2 rs3 rm => .fmsubH r rs1 rs2 rs3 rm
  | .fnmsubH _ rs1 rs2 rs3 rm => .fnmsubH r rs1 rs2 rs3 rm
  | .fnmaddH _ rs1 rs2 rs3 rm => .fnmaddH r rs1 rs2 rs3 rm
  | .fcvtWH _ rs1 rm => .fcvtWH r rs1 rm
  | .fcvtWuH _ rs1 rm => .fcvtWuH r rs1 rm
  | .fcvtLH _ rs1 rm => .fcvtLH r rs1 rm
  | .fcvtLuH _ rs1 rm => .fcvtLuH r rs1 rm
  | .fcvtHW _ rs1 rm => .fcvtHW r rs1 rm
  | .fcvtHWu _ rs1 rm => .fcvtHWu r rs1 rm
  | .fcvtHL _ rs1 rm => .fcvtHL r rs1 rm
  | .fcvtHLu _ rs1 rm => .fcvtHLu r rs1 rm
  | .fcvtSH _ rs1 rm => .fcvtSH r rs1 rm
  | .fcvtHS _ rs1 rm => .fcvtHS r rs1 rm
  | .fcvtDH _ rs1 rm => .fcvtDH r rs1 rm
  | .fcvtHD _ rs1 rm => .fcvtHD r rs1 rm
  | .fcvtQH _ rs1 rm => .fcvtQH r rs1 rm
  | .fcvtHQ _ rs1 rm => .fcvtHQ r rs1 rm
  | .fsgnjH _ rs1 rs2 => .fsgnjH r rs1 rs2
  | .fsgnjnH _ rs1 rs2 => .fsgnjnH r rs1 rs2
  | .fsgnjxH _ rs1 rs2 => .fsgnjxH r rs1 rs2
  | .fmvXH _ rs1 => .fmvXH r rs1
  | .fmvHX _ rs1 => .fmvHX r rs1
  | .feqH _ rs1 rs2 => .feqH r rs1 rs2
  | .fltH _ rs1 rs2 => .fltH r rs1 rs2
  | .fleH _ rs1 rs2 => .fleH r rs1 rs2
  | .fclassH _ rs1 => .fclassH r rs1
  | .fliS _ k => .fliS r k
  | .fliD _ k => .fliD r k
  | .fliH _ k => .fliH r k
  | .fliQ _ k => .fliQ r k
  | .fminmS _ rs1 rs2 => .fminmS r rs1 rs2
  | .fmaxmS _ rs1 rs2 => .fmaxmS r rs1 rs2
  | .fminmD _ rs1 rs2 => .fminmD r rs1 rs2
  | .fmaxmD _ rs1 rs2 => .fmaxmD r rs1 rs2
  | .fminmH _ rs1 rs2 => .fminmH r rs1 rs2
  | .fmaxmH _ rs1 rs2 => .fmaxmH r rs1 rs2
  | .fminmQ _ rs1 rs2 => .fminmQ r rs1 rs2
  | .fmaxmQ _ rs1 rs2 => .fmaxmQ r rs1 rs2
  | .froundS _ rs1 rm => .froundS r rs1 rm
  | .froundnxS _ rs1 rm => .froundnxS r rs1 rm
  | .froundD _ rs1 rm => .froundD r rs1 rm
  | .froundnxD _ rs1 rm => .froundnxD r rs1 rm
  | .froundH _ rs1 rm => .froundH r rs1 rm
  | .froundnxH _ rs1 rm => .froundnxH r rs1 rm
  | .froundQ _ rs1 rm => .froundQ r rs1 rm
  | .froundnxQ _ rs1 rm => .froundnxQ r rs1 rm
  | .fcvtmodWD _ rs1 => .fcvtmodWD r rs1
  | .fmvhXD _ rs1 => .fmvhXD r rs1
  | .fmvpDX _ rs1 rs2 => .fmvpDX r rs1 rs2
  | .fmvhXQ _ rs1 => .fmvhXQ r rs1
  | .fmvpQX _ rs1 rs2 => .fmvpQX r rs1 rs2
  | .fleqS _ rs1 rs2 => .fleqS r rs1 rs2
  | .fltqS _ rs1 rs2 => .fltqS r rs1 rs2
  | .fleqD _ rs1 rs2 => .fleqD r rs1 rs2
  | .fltqD _ rs1 rs2 => .fltqD r rs1 rs2
  | .fleqH _ rs1 rs2 => .fleqH r rs1 rs2
  | .fltqH _ rs1 rs2 => .fltqH r rs1 rs2
  | .fleqQ _ rs1 rs2 => .fleqQ r rs1 rs2
  | .fltqQ _ rs1 rs2 => .fltqQ r rs1 rs2
  | .fcvtBf16S _ rs1 rm => .fcvtBf16S r rs1 rm
  | .fcvtSBf16 _ rs1 rm => .fcvtSBf16 r rs1 rm
  | .csrrw _ csr rs1 => .csrrw r csr rs1
  | .csrrs _ csr rs1 => .csrrs r csr rs1
  | .csrrc _ csr rs1 => .csrrc r csr rs1
  | .csrrwi _ csr uimm => .csrrwi r csr uimm
  | .csrrsi _ csr uimm => .csrrsi r csr uimm
  | .csrrci _ csr uimm => .csrrci r csr uimm

/-- The access of a load or a store: its format, base and offset. -/
def memAccess : Instr → Option (Fmt × Reg × BitVec 12)
  | .flw _ rs1 imm => some (.s, rs1, imm)
  | .fsw _ rs1 imm => some (.s, rs1, imm)
  | .faddS _ _ _ _ => none
  | .fsubS _ _ _ _ => none
  | .fmulS _ _ _ _ => none
  | .fdivS _ _ _ _ => none
  | .fsqrtS _ _ _ => none
  | .fminS _ _ _ => none
  | .fmaxS _ _ _ => none
  | .fmaddS _ _ _ _ _ => none
  | .fmsubS _ _ _ _ _ => none
  | .fnmsubS _ _ _ _ _ => none
  | .fnmaddS _ _ _ _ _ => none
  | .fcvtWS _ _ _ => none
  | .fcvtWuS _ _ _ => none
  | .fcvtLS _ _ _ => none
  | .fcvtLuS _ _ _ => none
  | .fcvtSW _ _ _ => none
  | .fcvtSWu _ _ _ => none
  | .fcvtSL _ _ _ => none
  | .fcvtSLu _ _ _ => none
  | .fsgnjS _ _ _ => none
  | .fsgnjnS _ _ _ => none
  | .fsgnjxS _ _ _ => none
  | .fmvXW _ _ => none
  | .fmvWX _ _ => none
  | .feqS _ _ _ => none
  | .fltS _ _ _ => none
  | .fleS _ _ _ => none
  | .fclassS _ _ => none
  | .fld _ rs1 imm => some (.d, rs1, imm)
  | .fsd _ rs1 imm => some (.d, rs1, imm)
  | .faddD _ _ _ _ => none
  | .fsubD _ _ _ _ => none
  | .fmulD _ _ _ _ => none
  | .fdivD _ _ _ _ => none
  | .fsqrtD _ _ _ => none
  | .fminD _ _ _ => none
  | .fmaxD _ _ _ => none
  | .fmaddD _ _ _ _ _ => none
  | .fmsubD _ _ _ _ _ => none
  | .fnmsubD _ _ _ _ _ => none
  | .fnmaddD _ _ _ _ _ => none
  | .fcvtWD _ _ _ => none
  | .fcvtWuD _ _ _ => none
  | .fcvtLD _ _ _ => none
  | .fcvtLuD _ _ _ => none
  | .fcvtDW _ _ _ => none
  | .fcvtDWu _ _ _ => none
  | .fcvtDL _ _ _ => none
  | .fcvtDLu _ _ _ => none
  | .fcvtSD _ _ _ => none
  | .fcvtDS _ _ _ => none
  | .fsgnjD _ _ _ => none
  | .fsgnjnD _ _ _ => none
  | .fsgnjxD _ _ _ => none
  | .fmvXD _ _ => none
  | .fmvDX _ _ => none
  | .feqD _ _ _ => none
  | .fltD _ _ _ => none
  | .fleD _ _ _ => none
  | .fclassD _ _ => none
  | .flq _ rs1 imm => some (.q, rs1, imm)
  | .fsq _ rs1 imm => some (.q, rs1, imm)
  | .faddQ _ _ _ _ => none
  | .fsubQ _ _ _ _ => none
  | .fmulQ _ _ _ _ => none
  | .fdivQ _ _ _ _ => none
  | .fsqrtQ _ _ _ => none
  | .fminQ _ _ _ => none
  | .fmaxQ _ _ _ => none
  | .fmaddQ _ _ _ _ _ => none
  | .fmsubQ _ _ _ _ _ => none
  | .fnmsubQ _ _ _ _ _ => none
  | .fnmaddQ _ _ _ _ _ => none
  | .fcvtWQ _ _ _ => none
  | .fcvtWuQ _ _ _ => none
  | .fcvtLQ _ _ _ => none
  | .fcvtLuQ _ _ _ => none
  | .fcvtQW _ _ _ => none
  | .fcvtQWu _ _ _ => none
  | .fcvtQL _ _ _ => none
  | .fcvtQLu _ _ _ => none
  | .fcvtSQ _ _ _ => none
  | .fcvtQS _ _ _ => none
  | .fcvtDQ _ _ _ => none
  | .fcvtQD _ _ _ => none
  | .fsgnjQ _ _ _ => none
  | .fsgnjnQ _ _ _ => none
  | .fsgnjxQ _ _ _ => none
  | .feqQ _ _ _ => none
  | .fltQ _ _ _ => none
  | .fleQ _ _ _ => none
  | .fclassQ _ _ => none
  | .flh _ rs1 imm => some (.h, rs1, imm)
  | .fsh _ rs1 imm => some (.h, rs1, imm)
  | .faddH _ _ _ _ => none
  | .fsubH _ _ _ _ => none
  | .fmulH _ _ _ _ => none
  | .fdivH _ _ _ _ => none
  | .fsqrtH _ _ _ => none
  | .fminH _ _ _ => none
  | .fmaxH _ _ _ => none
  | .fmaddH _ _ _ _ _ => none
  | .fmsubH _ _ _ _ _ => none
  | .fnmsubH _ _ _ _ _ => none
  | .fnmaddH _ _ _ _ _ => none
  | .fcvtWH _ _ _ => none
  | .fcvtWuH _ _ _ => none
  | .fcvtLH _ _ _ => none
  | .fcvtLuH _ _ _ => none
  | .fcvtHW _ _ _ => none
  | .fcvtHWu _ _ _ => none
  | .fcvtHL _ _ _ => none
  | .fcvtHLu _ _ _ => none
  | .fcvtSH _ _ _ => none
  | .fcvtHS _ _ _ => none
  | .fcvtDH _ _ _ => none
  | .fcvtHD _ _ _ => none
  | .fcvtQH _ _ _ => none
  | .fcvtHQ _ _ _ => none
  | .fsgnjH _ _ _ => none
  | .fsgnjnH _ _ _ => none
  | .fsgnjxH _ _ _ => none
  | .fmvXH _ _ => none
  | .fmvHX _ _ => none
  | .feqH _ _ _ => none
  | .fltH _ _ _ => none
  | .fleH _ _ _ => none
  | .fclassH _ _ => none
  | .fliS _ _ => none
  | .fliD _ _ => none
  | .fliH _ _ => none
  | .fliQ _ _ => none
  | .fminmS _ _ _ => none
  | .fmaxmS _ _ _ => none
  | .fminmD _ _ _ => none
  | .fmaxmD _ _ _ => none
  | .fminmH _ _ _ => none
  | .fmaxmH _ _ _ => none
  | .fminmQ _ _ _ => none
  | .fmaxmQ _ _ _ => none
  | .froundS _ _ _ => none
  | .froundnxS _ _ _ => none
  | .froundD _ _ _ => none
  | .froundnxD _ _ _ => none
  | .froundH _ _ _ => none
  | .froundnxH _ _ _ => none
  | .froundQ _ _ _ => none
  | .froundnxQ _ _ _ => none
  | .fcvtmodWD _ _ => none
  | .fmvhXD _ _ => none
  | .fmvpDX _ _ _ => none
  | .fmvhXQ _ _ => none
  | .fmvpQX _ _ _ => none
  | .fleqS _ _ _ => none
  | .fltqS _ _ _ => none
  | .fleqD _ _ _ => none
  | .fltqD _ _ _ => none
  | .fleqH _ _ _ => none
  | .fltqH _ _ _ => none
  | .fleqQ _ _ _ => none
  | .fltqQ _ _ _ => none
  | .fcvtBf16S _ _ _ => none
  | .fcvtSBf16 _ _ _ => none
  | .csrrw _ _ _ => none
  | .csrrs _ _ _ => none
  | .csrrc _ _ _ => none
  | .csrrwi _ _ _ => none
  | .csrrsi _ _ _ => none
  | .csrrci _ _ _ => none

/-- The instructions that never set a flag (10_state.md R33): transfers, moves, sign injections, FCLASS and FLI. -/
def neverSetsFlags : Instr → Bool
  | .flw _ _ _ => true
  | .fsw _ _ _ => true
  | .faddS _ _ _ _ => false
  | .fsubS _ _ _ _ => false
  | .fmulS _ _ _ _ => false
  | .fdivS _ _ _ _ => false
  | .fsqrtS _ _ _ => false
  | .fminS _ _ _ => false
  | .fmaxS _ _ _ => false
  | .fmaddS _ _ _ _ _ => false
  | .fmsubS _ _ _ _ _ => false
  | .fnmsubS _ _ _ _ _ => false
  | .fnmaddS _ _ _ _ _ => false
  | .fcvtWS _ _ _ => false
  | .fcvtWuS _ _ _ => false
  | .fcvtLS _ _ _ => false
  | .fcvtLuS _ _ _ => false
  | .fcvtSW _ _ _ => false
  | .fcvtSWu _ _ _ => false
  | .fcvtSL _ _ _ => false
  | .fcvtSLu _ _ _ => false
  | .fsgnjS _ _ _ => true
  | .fsgnjnS _ _ _ => true
  | .fsgnjxS _ _ _ => true
  | .fmvXW _ _ => true
  | .fmvWX _ _ => true
  | .feqS _ _ _ => false
  | .fltS _ _ _ => false
  | .fleS _ _ _ => false
  | .fclassS _ _ => true
  | .fld _ _ _ => true
  | .fsd _ _ _ => true
  | .faddD _ _ _ _ => false
  | .fsubD _ _ _ _ => false
  | .fmulD _ _ _ _ => false
  | .fdivD _ _ _ _ => false
  | .fsqrtD _ _ _ => false
  | .fminD _ _ _ => false
  | .fmaxD _ _ _ => false
  | .fmaddD _ _ _ _ _ => false
  | .fmsubD _ _ _ _ _ => false
  | .fnmsubD _ _ _ _ _ => false
  | .fnmaddD _ _ _ _ _ => false
  | .fcvtWD _ _ _ => false
  | .fcvtWuD _ _ _ => false
  | .fcvtLD _ _ _ => false
  | .fcvtLuD _ _ _ => false
  | .fcvtDW _ _ _ => false
  | .fcvtDWu _ _ _ => false
  | .fcvtDL _ _ _ => false
  | .fcvtDLu _ _ _ => false
  | .fcvtSD _ _ _ => false
  | .fcvtDS _ _ _ => false
  | .fsgnjD _ _ _ => true
  | .fsgnjnD _ _ _ => true
  | .fsgnjxD _ _ _ => true
  | .fmvXD _ _ => true
  | .fmvDX _ _ => true
  | .feqD _ _ _ => false
  | .fltD _ _ _ => false
  | .fleD _ _ _ => false
  | .fclassD _ _ => true
  | .flq _ _ _ => true
  | .fsq _ _ _ => true
  | .faddQ _ _ _ _ => false
  | .fsubQ _ _ _ _ => false
  | .fmulQ _ _ _ _ => false
  | .fdivQ _ _ _ _ => false
  | .fsqrtQ _ _ _ => false
  | .fminQ _ _ _ => false
  | .fmaxQ _ _ _ => false
  | .fmaddQ _ _ _ _ _ => false
  | .fmsubQ _ _ _ _ _ => false
  | .fnmsubQ _ _ _ _ _ => false
  | .fnmaddQ _ _ _ _ _ => false
  | .fcvtWQ _ _ _ => false
  | .fcvtWuQ _ _ _ => false
  | .fcvtLQ _ _ _ => false
  | .fcvtLuQ _ _ _ => false
  | .fcvtQW _ _ _ => false
  | .fcvtQWu _ _ _ => false
  | .fcvtQL _ _ _ => false
  | .fcvtQLu _ _ _ => false
  | .fcvtSQ _ _ _ => false
  | .fcvtQS _ _ _ => false
  | .fcvtDQ _ _ _ => false
  | .fcvtQD _ _ _ => false
  | .fsgnjQ _ _ _ => true
  | .fsgnjnQ _ _ _ => true
  | .fsgnjxQ _ _ _ => true
  | .feqQ _ _ _ => false
  | .fltQ _ _ _ => false
  | .fleQ _ _ _ => false
  | .fclassQ _ _ => true
  | .flh _ _ _ => true
  | .fsh _ _ _ => true
  | .faddH _ _ _ _ => false
  | .fsubH _ _ _ _ => false
  | .fmulH _ _ _ _ => false
  | .fdivH _ _ _ _ => false
  | .fsqrtH _ _ _ => false
  | .fminH _ _ _ => false
  | .fmaxH _ _ _ => false
  | .fmaddH _ _ _ _ _ => false
  | .fmsubH _ _ _ _ _ => false
  | .fnmsubH _ _ _ _ _ => false
  | .fnmaddH _ _ _ _ _ => false
  | .fcvtWH _ _ _ => false
  | .fcvtWuH _ _ _ => false
  | .fcvtLH _ _ _ => false
  | .fcvtLuH _ _ _ => false
  | .fcvtHW _ _ _ => false
  | .fcvtHWu _ _ _ => false
  | .fcvtHL _ _ _ => false
  | .fcvtHLu _ _ _ => false
  | .fcvtSH _ _ _ => false
  | .fcvtHS _ _ _ => false
  | .fcvtDH _ _ _ => false
  | .fcvtHD _ _ _ => false
  | .fcvtQH _ _ _ => false
  | .fcvtHQ _ _ _ => false
  | .fsgnjH _ _ _ => true
  | .fsgnjnH _ _ _ => true
  | .fsgnjxH _ _ _ => true
  | .fmvXH _ _ => true
  | .fmvHX _ _ => true
  | .feqH _ _ _ => false
  | .fltH _ _ _ => false
  | .fleH _ _ _ => false
  | .fclassH _ _ => true
  | .fliS _ _ => true
  | .fliD _ _ => true
  | .fliH _ _ => true
  | .fliQ _ _ => true
  | .fminmS _ _ _ => false
  | .fmaxmS _ _ _ => false
  | .fminmD _ _ _ => false
  | .fmaxmD _ _ _ => false
  | .fminmH _ _ _ => false
  | .fmaxmH _ _ _ => false
  | .fminmQ _ _ _ => false
  | .fmaxmQ _ _ _ => false
  | .froundS _ _ _ => false
  | .froundnxS _ _ _ => false
  | .froundD _ _ _ => false
  | .froundnxD _ _ _ => false
  | .froundH _ _ _ => false
  | .froundnxH _ _ _ => false
  | .froundQ _ _ _ => false
  | .froundnxQ _ _ _ => false
  | .fcvtmodWD _ _ => false
  | .fmvhXD _ _ => true
  | .fmvpDX _ _ _ => true
  | .fmvhXQ _ _ => true
  | .fmvpQX _ _ _ => true
  | .fleqS _ _ _ => false
  | .fltqS _ _ _ => false
  | .fleqD _ _ _ => false
  | .fltqD _ _ _ => false
  | .fleqH _ _ _ => false
  | .fltqH _ _ _ => false
  | .fleqQ _ _ _ => false
  | .fltqQ _ _ _ => false
  | .fcvtBf16S _ _ _ => false
  | .fcvtSBf16 _ _ _ => false
  | .csrrw _ _ _ => false
  | .csrrs _ _ _ => false
  | .csrrc _ _ _ => false
  | .csrrwi _ _ _ => false
  | .csrrsi _ _ _ => false
  | .csrrci _ _ _ => false

/-- Whether an instruction is one of the six CSR accesses. -/
def isCsrAccess (i : Instr) : Bool :=
  match dest i with
  | .csr _ _ => true
  | .fp _ _ => false
  | .f _ => false
  | .x _ => false
  | .mem _ _ _ => false

/-- Whether an instruction is a store. -/
def isStore (i : Instr) : Bool :=
  match dest i with
  | .mem _ _ _ => true
  | .fp _ _ => false
  | .f _ => false
  | .x _ => false
  | .csr _ _ => false

/-- Whether a CSR access names a CSR of this spec; true of every other instruction. -/
def csrKnown (i : Instr) : Bool :=
  match dest i with
  | .csr _ csr => csrInScope csr
  | .fp _ _ => true
  | .f _ => true
  | .x _ => true
  | .mem _ _ _ => true

/-! ## Values as rationals -/

/-- The number a dyad stands for. -/
def Dyad.toRat (x : Dyad) : ℚ := x.num * (2 : ℚ) ^ x.exp

/-- The number a quotient `num / den * 2^exp` of a sign stands for. -/
def ratioRat (neg : Bool) (num den : Nat) (exp : Int) : ℚ :=
  (if neg then -1 else 1) * ((num : ℚ) / den) * (2 : ℚ) ^ exp

/-- The value of a finite pattern as a rational. -/
def ratOf {fmt : Fmt} (v : Bits fmt) : ℚ := (valueOf v).toRat

/-- A pattern that stands for a number: neither an infinity nor a NaN. -/
def isFinite {fmt : Fmt} (v : Bits fmt) : Bool := expOf v != fmt.expMax

/-- 40_fp_common.md R144: `k * u` is the multiple of the unit `u` that the mode chooses for the number `x`. -/
def Chosen (mode : Mode) (x u : ℚ) (k : ℤ) : Prop :=
  match mode with
  | .rne => |x - k * u| ≤ u / 2 ∧ (|x - k * u| = u / 2 → k % 2 = 0)
  | .rtz => |x - k * u| < u ∧ |k * u| ≤ |x|
  | .rdn => k * u ≤ x ∧ x < k * u + u
  | .rup => x ≤ k * u ∧ k * u - u < x
  | .rmm => |x - k * u| ≤ u / 2 ∧ (|x - k * u| = u / 2 → |x| < |k * u|)

/-- 40_fp_common.md R145, R146: `r` is the result and the flags of rounding the nonzero number `x` to a format, with
`2^l <= |x| < 2^(l+1)`, `k` the candidate the mode chooses in the format's unit at `x`, and `j` the candidate at p bits
and an unbounded exponent range. -/
def CorrectlyRounded (fmt : Fmt) (mode : Mode) (x : ℚ) (r : Result fmt) : Prop :=
  ∀ l k j : ℤ,
    let u : ℚ := (2 : ℚ) ^ (max l fmt.emin - fmt.fracBits)
    let w : ℚ := (2 : ℚ) ^ (l - fmt.fracBits)
    (2 : ℚ) ^ l ≤ |x| → |x| < (2 : ℚ) ^ (l + 1) → Chosen mode x u k → Chosen mode x w j →
    ((2 : ℚ) ^ (fmt.emax + 1) ≤ |k * u| → r.2 = 0b00101#5 ∧
      ((mode = .rne ∨ mode = .rmm ∨ (mode = .rup ∧ 0 < x) ∨ (mode = .rdn ∧ x < 0)) →
        r.1 = infOf fmt (decide (x < 0))) ∧
      ((mode = .rtz ∨ (mode = .rup ∧ x < 0) ∨ (mode = .rdn ∧ 0 < x)) →
        r.1 = maxFiniteOf fmt (decide (x < 0)))) ∧
    (|k * u| < (2 : ℚ) ^ (fmt.emax + 1) →
      isFinite r.1 = true ∧ signOf r.1 = decide (x < 0) ∧ ratOf r.1 = k * u ∧
      r.2 = (if k * u = x then 0b00000#5
        else if |j * w| < (2 : ℚ) ^ fmt.emin then 0b00011#5 else 0b00001#5))

/-- The place of a pattern that is no NaN among the numbers, the infinities at their ends. -/
def extOf {fmt : Fmt} (v : Bits fmt) : WithBot (WithTop ℚ) :=
  if isInf v = true then (if signOf v = true then ⊥ else ((⊤ : WithTop ℚ) : WithBot (WithTop ℚ)))
  else ((ratOf v : WithTop ℚ) : WithBot (WithTop ℚ))

end Sys2Proof.Machine
end

