-- ==== Sys2Proof/Certificates/Slice0/Obligations.lean ====
section
/-!
DEFINITION. The statements for the provers, from the numbered rules of spec/. The docstring of each says what it states
and where it rests on a choice of the model's; the terms are those of Sys2Proof/Safety.lean and of the model itself.
-/

open Sys2Proof Sys2Proof.Machine

/-- For every instruction i, with every operand field at every value, decode (encode i) is i. -/
def Obligations.DecodeEncodeEveryInstruction : Prop :=
  ∀ i : Instr, decode (encode i) = .instr i

/-- For every word w at most one row of the opcode table matches; if decode w is the instruction i then encode i is w,
so no bit of a decoded word is dropped and an IllegalInstruction raised by an executing instruction carries the
fetched word. -/
def Obligations.WordsDecodeUniquely : Prop :=
  ∀ w : Word, (rows.filter (fun r => r.matches w)).length ≤ 1 ∧ ∀ i : Instr, decode w = .instr i → encode i = w

/-- flw f1, 4(x10); fsw f2, -8(x10); fadd.d f1, f2, f3, rne; fmadd.s f4, f1, f2, f3, dyn; fcvtmod.w.d x1, f2;
fcvt.bf16.s f1, f2; csrrw x6, fcsr, x5. -/
def Obligations.DecodeOfWrittenOutWords : Prop :=
  decode 0b000000000100_01010_010_00001_0000111#32 = .instr (.flw 1 10 4) ∧
  decode 0b1111111_00010_01010_010_11000_0100111#32 = .instr (.fsw 2 10 (-8)) ∧
  decode 0b0000001_00011_00010_000_00001_1010011#32 = .instr (.faddD 1 2 3 0) ∧
  decode 0b00011_00_00010_00001_111_00100_1000011#32 = .instr (.fmaddS 4 1 2 3 7) ∧
  decode 0b1100001_01000_00010_001_00001_1010011#32 = .instr (.fcvtmodWD 1 2) ∧
  decode 0b0100010_01000_00010_000_00001_1010011#32 = .instr (.fcvtBf16S 1 2 0) ∧
  decode 0b000000000011_00101_001_00110_1110011#32 = .instr (.csrrw 6 3 5)

/-- In a state with a configuration of this hardware and an aligned pc that is not PROG_END and whose four bytes
exist, if the little-endian word at the pc decodes to i then step is exec i; exec itself moves the pc. That the fetch
takes the lowest byte first is the spec's own choice (R62, R90, D4; log 8). -/
def Obligations.StepRunsDecodedInstruction : Prop :=
  ∀ (s : State) (i : Instr), s.cfg.wf = true → s.pc.toNat % 4 = 0 → s.pc.toNat ≠ s.cfg.progEnd % 2 ^ s.xlen →
    (∀ k < 4, s.mapped (s.byteAddr s.pc k) = true) →
    decode (memRead s.mem (s.byteAddr s.pc 3) ++ memRead s.mem (s.byteAddr s.pc 2) ++
      memRead s.mem (s.byteAddr s.pc 1) ++ memRead s.mem (s.byteAddr s.pc 0)) = .instr i →
    step s = exec i s

/-- In a state with a configuration of this hardware, an aligned pc that is not PROG_END and at least one of the four
bytes at the pc outside MEM, step is the fault InstructionAccessFault(pc) at pc; no step of any state faults with
InstructionAddressMisaligned. That a byte outside MEM faults is the spec's own choice (R61, R520, D11, D12; log 18),
and so is that a misaligned pc is refused and never raises (R67, R520, D12; log 17). -/
def Obligations.FetchOutsideMemoryFaults : Prop :=
  (∀ (s : State) (k : Nat), s.cfg.wf = true → s.pc.toNat % 4 = 0 → s.pc.toNat ≠ s.cfg.progEnd % 2 ^ s.xlen → k < 4 →
    s.mapped (s.byteAddr s.pc k) = false → step s = .fault (.trap (.instructionAccessFault s.pc) s.pc)) ∧
  (∀ (s : State) (p q : XWord), step s ≠ .fault (.trap (.instructionAddressMisaligned p) q))

/-- In a state that fetches a word w no row of the opcode table matches, step raises IllegalInstruction(w) when the
low seven bits of w are LOAD-FP, STORE-FP, MADD, MSUB, NMSUB, NMADD or OP-FP, and refuses the word otherwise (a SYSTEM
word that is no CSR access, or any base-ISA opcode). Both outcomes are the spec's own choice: the exception D15 (log
14), the refusal D17 (log 16). -/
def Obligations.UnmatchedWordOutcome : Prop :=
  ∀ s : State, s.cfg.wf = true → s.pc.toNat % 4 = 0 → s.pc.toNat ≠ s.cfg.progEnd % 2 ^ s.xlen →
    (∀ k < 4, s.mapped (s.byteAddr s.pc k) = true) →
    (∀ r ∈ rows, fetchWord s &&& r.mask ≠ r.bits) →
    ((fetchWord s).extractLsb' 0 7 ∈ [0b0000111#7, 0b0100111#7, 0b1000011#7, 0b1000111#7, 0b1001011#7, 0b1001111#7,
        0b1010011#7] →
      step s = .fault (.trap (.illegalInstruction (fetchWord s)) s.pc)) ∧
    ((fetchWord s).extractLsb' 0 7 ∉ [0b0000111#7, 0b0100111#7, 0b1000011#7, 0b1000111#7, 0b1001011#7, 0b1001111#7,
        0b1010011#7] →
      step s = .refused (.outOfScopeWord (fetchWord s)))

/-- A state that fetches the FCVTMOD.W.D pattern (funct7 1100001, rs2 01000, opcode OP-FP) with an rm field other than
001, 111 included, raises IllegalInstruction with that word. That the reserved rm values raise is the spec's own
choice (R112, D6; log 13). -/
def Obligations.ModularConvertNeedsRtz : Prop :=
  ∀ (s : State) (rd rs1 : Reg) (rm : BitVec 3), rm ≠ 0b001#3 → s.cfg.wf = true → s.pc.toNat % 4 = 0 →
    s.pc.toNat ≠ s.cfg.progEnd % 2 ^ s.xlen → (∀ k < 4, s.mapped (s.byteAddr s.pc k) = true) →
    fetchWord s = 0b1100001#7 ++ 0b01000#5 ++ rs1 ++ rm ++ rd ++ 0b1010011#7 →
    step s = .fault (.trap (.illegalInstruction (fetchWord s)) s.pc)

/-- For a state with a configuration of this hardware, a canonical memory and an aligned pc inside the address space,
the step of the state with the word of i placed at the pc is exec of i at that state. That a program stands in memory
this way is the model's reading of the launch (log 7). -/
def Obligations.PlacedInstructionIsRun : Prop :=
  ∀ (s : State) (i : Instr), s.cfg.wf = true → Memory.wf s.mem = true → s.trunc s.pc = s.pc →
    s.pc.toNat % 4 = 0 →
    step (s.withFetchWord 32 (encode i).toNat) = exec i (s.withFetchWord 32 (encode i).toNat)

/-- State.reset has a configuration of this hardware, a canonical memory inside MEM, x0 zero, registers and pc cut to
their widths and an aligned pc. The spec gives a reset value to x0 alone; the other values are the model's choice,
logs 1 to 3. -/
def Obligations.ResetSatisfiesInvariant : Prop :=
  State.reset.Inv

/-- For every state s satisfying the invariant (memory strictly rising, canonical and inside MEM, x0 zero, every
register and the pc cut to its width, pc a multiple of 4, a configuration of this hardware), if step s answers next t
then t satisfies it. -/
def Obligations.StepKeepsInvariant : Prop :=
  ∀ s t : State, s.Inv → step s = .next t → t.Inv

/-- If launch l answers next s then s satisfies the invariant, its program text is inside MEM, its pc is in the text
or at its end, and s is Final exactly when its pc is PROG_END. launch is a refusal when EXT has D without F, Q without
D, Zfh, Zfhmin, Zfa or Zfbfmin without F, Zdinx, Zhinx or Zhinxmin without Zfinx, or F beside Zfinx, when XLEN is
neither 32 nor 64, when the pc, PROG_BASE or PROG_END is no multiple of 4, when the text is reversed, ends above
2^XLEN, or is all of [0, 2^XLEN), when the pc, an XLEN-bit number, is below PROG_BASE or above PROG_END, and when a
byte of the text is in none of MEM's ranges. A launch that breaks none of these, and whose pc is an XLEN-bit number,
is accepted, with the configuration, pc, frm, fflags, registers (x0 zero, each cut to its width, log 4) and, where no
address is listed twice, bytes it names. The launch, its premises and its refusals are the spec's own choice and the
model's (R529, D1, D12, D22; logs 6, 17 and 23). -/
def Obligations.LaunchOutcomes : Prop :=
  ∀ l : Launch,
    (∀ s : State, launch l = .next s →
      s.Inv ∧ s.cfg.progBase ≤ s.pc.toNat ∧ s.pc.toNat ≤ s.cfg.progEnd ∧
        (∀ a, s.cfg.progBase ≤ a → a < s.cfg.progEnd → s.mapped a = true) ∧
        (Final s ↔ s.pc.toNat = s.cfg.progEnd)) ∧
    ((l.ext.d = true ∧ l.ext.f = false) ∨ (l.ext.q = true ∧ l.ext.d = false) ∨
      ((l.ext.zfh = true ∨ l.ext.zfhmin = true ∨ l.ext.zfa = true ∨ l.ext.zfbfmin = true) ∧ l.ext.f = false) ∨
      ((l.ext.zdinx = true ∨ l.ext.zhinx = true ∨ l.ext.zhinxmin = true) ∧ l.ext.zfinx = false) ∨
      (l.ext.zfinx = true ∧ l.ext.f = true) ∨ (l.xlen ≠ 32 ∧ l.xlen ≠ 64) ∨
      l.pc.toNat % 4 ≠ 0 ∨ l.progBase % 4 ≠ 0 ∨ l.progEnd % 4 ≠ 0 ∨ l.progEnd < l.progBase ∨ 2 ^ l.xlen < l.progEnd ∨
      (l.progBase = 0 ∧ l.progEnd = 2 ^ l.xlen) ∨
      (l.pc.toNat < 2 ^ l.xlen ∧ (l.pc.toNat < l.progBase ∨ l.progEnd < l.pc.toNat)) ∨
      (∃ a, l.progBase ≤ a ∧ a < l.progEnd ∧ ∀ r ∈ l.regions, ¬(r.base ≤ a ∧ a < r.base + r.size)) →
      ∃ r, launch l = .refused r) ∧
    (l.xlen = 32 ∨ l.xlen = 64 →
      (l.ext.d = true → l.ext.f = true) → (l.ext.q = true → l.ext.d = true) →
      (l.ext.zfh = true ∨ l.ext.zfhmin = true ∨ l.ext.zfa = true ∨ l.ext.zfbfmin = true → l.ext.f = true) →
      (l.ext.zdinx = true ∨ l.ext.zhinx = true ∨ l.ext.zhinxmin = true → l.ext.zfinx = true) →
      ¬(l.ext.zfinx = true ∧ l.ext.f = true) →
      l.pc.toNat % 4 = 0 → l.progBase % 4 = 0 → l.progEnd % 4 = 0 → l.progBase ≤ l.progEnd → l.progEnd ≤ 2 ^ l.xlen →
      ¬(l.progBase = 0 ∧ l.progEnd = 2 ^ l.xlen) →
      l.pc.toNat < 2 ^ l.xlen → l.progBase ≤ l.pc.toNat → l.pc.toNat ≤ l.progEnd →
      (∀ a, l.progBase ≤ a → a < l.progEnd → ∃ r ∈ l.regions, r.base ≤ a ∧ a < r.base + r.size) →
      ∃ s : State, launch l = .next s ∧
        s.xlen = l.xlen ∧ s.cfg.ext = l.ext ∧ s.cfg.misaligned = l.misaligned ∧ s.cfg.fsOn = l.fsOn ∧
        s.cfg.regions = l.regions ∧ s.cfg.progBase = l.progBase ∧ s.cfg.progEnd = l.progEnd ∧
        s.pc = l.pc ∧ s.frm = l.frm ∧ s.fflags = l.fflags ∧
        (∀ r : Reg, s.readX r = if r = 0 then 0 else s.trunc l.x[r.toNat]) ∧
        (∀ r : Reg, s.readF r = s.truncF l.f[r.toNat]) ∧
        ((l.bytes.map (·.1)).Nodup → ∀ c ∈ l.bytes, s.mapped c.1 = true → memRead s.mem c.1 = c.2))

/-- For every instruction and state, if exec answers next t then the pc of t is trunc_XLEN(pc + 4); if exec faults,
the fault carries the pc of the instruction. The advance and its wrap-around are the spec's own (R23, D3; log 9). -/
def Obligations.InstructionsAdvancePc : Prop :=
  ∀ (i : Instr) (s : State),
    (∀ t, exec i s = .next t → t.pc = s.trunc (s.pc + 4)) ∧
    (∀ e p, exec i s = .fault (.trap e p) → p = s.pc)

/-- If step s answers next t then the configuration of t (XLEN, EXT, MISALIGNED, FS_ON, the domain of MEM, PROG_BASE
and PROG_END) is that of s, and every byte of the program text reads as before when s satisfies the invariant. That no
step changes the program text rests on the refusal of a store into it, the spec's own choice (R74, D13; log 17). -/
def Obligations.StepKeepsConfiguration : Prop :=
  ∀ s t : State, step s = .next t →
    t.cfg = s.cfg ∧ (Memory.wf s.mem = true → ∀ a, s.cfg.progBase ≤ a → a < s.cfg.progEnd →
      memRead t.mem a = memRead s.mem a)

/-- If an instruction that is no CSR access answers next t then frm is unchanged and t's fflags is the old fflags ORed
with one of: no flag, NV, DZ, NX, OF and NX, UF and NX. For loads, stores, FMV, FMVH, FMVP, FSGNJ, FSGNJN, FSGNJX,
FCLASS and FLI in every format fflags is unchanged. -/
def Obligations.FlagsAccrueInLegalCombinations : Prop :=
  ∀ (i : Instr) (s t : State), exec i s = .next t →
    (isCsrAccess i = false → t.frm = s.frm ∧
      ∃ fl ∈ [0b00000#5, 0b10000#5, 0b01000#5, 0b00001#5, 0b00101#5, 0b00011#5], t.fflags = s.fflags ||| fl) ∧
    (neverSetsFlags i = true → t.fflags = s.fflags)

/-- Arithmetic, square root, fused, sign injection, min/max, FROUND, conversions from integer and between formats:
memory, frm and cfg are unchanged; with f registers every x register and every f register but rd is unchanged; under
Zfinx every f register is unchanged, every x register but rd (and rd + 1 for a format wider than XLEN) is unchanged,
and with rd = x0 no x register changes. -/
def Obligations.FrameOfFpResults : Prop :=
  ∀ (i : Instr) (s t : State) (fmt : Fmt) (rd : Reg), dest i = .fp fmt rd → exec i s = .next t →
    (∀ a, memRead t.mem a = memRead s.mem a) ∧ t.frm = s.frm ∧ t.cfg = s.cfg ∧
    (s.inX = false → t.x = s.x ∧ ∀ r : Reg, r ≠ rd → t.f[r.toNat] = s.f[r.toNat]) ∧
    (s.inX = true → t.f = s.f ∧ (rd = 0 → t.x = s.x) ∧
      ∀ r : Reg, r ≠ rd → (fmt.width ≤ s.xlen ∨ r ≠ rd + 1) → t.x[r.toNat] = s.x[r.toNat])

/-- FLH, FLW, FLD, FLQ, FMV.W.X, FMV.D.X, FMV.H.X, FMVP.D.X, FMVP.Q.X and FLI: every x register, every f register but
rd, every byte of memory, fflags, frm and cfg are unchanged. -/
def Obligations.FrameOfFRegisterWrites : Prop :=
  ∀ (i : Instr) (s t : State) (rd : Reg), dest i = .f rd → exec i s = .next t →
    t.x = s.x ∧ (∀ r : Reg, r ≠ rd → t.f[r.toNat] = s.f[r.toNat]) ∧ (∀ a, memRead t.mem a = memRead s.mem a) ∧
    t.fflags = s.fflags ∧ t.frm = s.frm ∧ t.cfg = s.cfg

/-- Every f register, every x register but rd, every byte of memory, frm and cfg are unchanged; with rd = x0 no x
register changes at all. -/
def Obligations.FrameOfIntegerResults : Prop :=
  ∀ (i : Instr) (s t : State) (rd : Reg), dest i = .x rd → exec i s = .next t →
    t.f = s.f ∧ (∀ r : Reg, r ≠ rd → t.x[r.toNat] = s.x[r.toNat]) ∧ (rd = 0 → t.x = s.x) ∧
    (∀ a, memRead t.mem a = memRead s.mem a) ∧ t.frm = s.frm ∧ t.cfg = s.cfg

/-- FSH, FSW, FSD, FSQ: every register, fflags, frm and cfg are unchanged, and every byte of a canonical memory whose
address is none of trunc_XLEN(ea + k), k below the access width in bytes, ea being the address the meaning uses, reads
as before. -/
def Obligations.FrameOfStores : Prop :=
  ∀ (i : Instr) (s t : State) (fmt : Fmt) (rs1 : Reg) (imm : BitVec 12), dest i = .mem fmt rs1 imm →
    Memory.wf s.mem = true → exec i s = .next t →
    t.x = s.x ∧ t.f = s.f ∧ t.fflags = s.fflags ∧ t.frm = s.frm ∧ t.cfg = s.cfg ∧
    ∀ a, (∀ k < fmt.width / 8, a ≠ s.byteAddr (s.effAddr rs1 imm) k) → memRead t.mem a = memRead s.mem a

/-- CSRRW, CSRRS, CSRRC, CSRRWI, CSRRSI, CSRRCI: every f register, every x register but rd, every byte of memory and
cfg are unchanged; an access to fflags leaves frm, an access to frm leaves fflags. -/
def Obligations.FrameOfCsrAccesses : Prop :=
  ∀ (i : Instr) (s t : State) (rd : Reg) (csr : BitVec 12), dest i = .csr rd csr → exec i s = .next t →
    t.f = s.f ∧ (∀ r : Reg, r ≠ rd → t.x[r.toNat] = s.x[r.toNat]) ∧ (rd = 0 → t.x = s.x) ∧
    (∀ a, memRead t.mem a = memRead s.mem a) ∧ t.cfg = s.cfg ∧
    (csr = 0x001#12 → t.frm = s.frm) ∧ (csr = 0x002#12 → t.fflags = s.fflags)

/-- With a well-formed EXT that has Zfinx, running any instruction from two states that differ only in the f registers
gives the same outcome, next states differing only in those same f registers. -/
def Obligations.ZfinxNeverTouchesFRegisters : Prop :=
  ∀ (i : Instr) (s : State) (f : Vector FWord 32), s.cfg.ext.wf = true → s.cfg.ext.zfinx = true →
    exec i (s.withF f) = mapNext (fun t => t.withF f) (exec i s)

/-- For every instruction with an rm field and every state: if rm is 101 or 110, or rm is 111 while frm is 101, 110 or
111, exec is the fault IllegalInstruction carrying the instruction's word, and there is no next state. That the
reserved modes raise is the spec's own choice (R108, D6; log 13). The codes 000, 001, 010, 011 and 100, in rm or, when
rm is 111, in frm, select RNE, RTZ, RDN, RUP and RMM. -/
def Obligations.ReservedRoundingModeIsIllegal : Prop :=
  (∀ (i : Instr) (s : State) (rm : BitVec 3), rmField i = some rm →
    (rm = 0b101#3 ∨ rm = 0b110#3 ∨ (rm = 0b111#3 ∧ (s.frm = 0b101#3 ∨ s.frm = 0b110#3 ∨ s.frm = 0b111#3))) →
    exec i s = illegalOutcome i s) ∧
  (∀ (s : State) (rm : BitVec 3),
    let code := if rm = 0b111#3 then s.frm else rm
    (code = 0b000#3 → s.resolveMode rm = some .rne) ∧ (code = 0b001#3 → s.resolveMode rm = some .rtz) ∧
    (code = 0b010#3 → s.resolveMode rm = some .rdn) ∧ (code = 0b011#3 → s.resolveMode rm = some .rup) ∧
    (code = 0b100#3 → s.resolveMode rm = some .rmm) ∧ (0b100#3 < code → s.resolveMode rm = none))

/-- For every row of the opcode table but the CSR accesses, grouped by what EXT must have: if EXT has it not, the
instruction is illegal in every state. On RV32 the L and LU conversions, FMV.X.D, FMV.D.X, FMVH.X.Q and FMVP.Q.X are
illegal too; on RV64 FMVH.X.D and FMVP.D.X are. That an unimplemented encoding raises is the spec's own choice (R107,
D15; log 14). -/
def Obligations.MissingExtensionIsIllegal : Prop :=
  ∀ (rd rs1 rs2 rs3 : Reg) (rm : BitVec 3) (imm : BitVec 12) (k : BitVec 5) (s : State),
    (s.cfg.ext.f = false → ∀ i ∈ ([
      .flw rd rs1 imm, .fsw rs2 rs1 imm, .fmvWX rd rs1, .fmvXW rd rs1] : List Instr),
      exec i s = illegalOutcome i s) ∧
    (s.cfg.ext.d = false → ∀ i ∈ ([
      .fld rd rs1 imm, .fsd rs2 rs1 imm, .fmvDX rd rs1, .fmvXD rd rs1] : List Instr),
      exec i s = illegalOutcome i s) ∧
    (s.cfg.ext.q = false → ∀ i ∈ ([
      .flq rd rs1 imm, .fsq rs2 rs1 imm] : List Instr),
      exec i s = illegalOutcome i s) ∧
    (hasHTransfer s = false → ∀ i ∈ ([
      .flh rd rs1 imm, .fsh rs2 rs1 imm, .fmvHX rd rs1, .fmvXH rd rs1] : List Instr),
      exec i s = illegalOutcome i s) ∧
    (hasS s = false → ∀ i ∈ ([
      .faddS rd rs1 rs2 rm, .fsubS rd rs1 rs2 rm, .fmulS rd rs1 rs2 rm, .fdivS rd rs1 rs2 rm, .fsqrtS rd rs1 rm,
      .fmaddS rd rs1 rs2 rs3 rm, .fmsubS rd rs1 rs2 rs3 rm, .fnmsubS rd rs1 rs2 rs3 rm, .fnmaddS rd rs1 rs2 rs3 rm,
      .fsgnjS rd rs1 rs2, .fsgnjnS rd rs1 rs2, .fsgnjxS rd rs1 rs2, .fminS rd rs1 rs2, .fmaxS rd rs1 rs2,
      .feqS rd rs1 rs2, .fltS rd rs1 rs2, .fleS rd rs1 rs2, .fclassS rd rs1, .fcvtWS rd rs1 rm, .fcvtWuS rd rs1 rm,
      .fcvtLS rd rs1 rm, .fcvtLuS rd rs1 rm, .fcvtSW rd rs1 rm, .fcvtSWu rd rs1 rm, .fcvtSL rd rs1 rm,
      .fcvtSLu rd rs1 rm] : List Instr),
      exec i s = illegalOutcome i s) ∧
    (hasD s = false → ∀ i ∈ ([
      .faddD rd rs1 rs2 rm, .fsubD rd rs1 rs2 rm, .fmulD rd rs1 rs2 rm, .fdivD rd rs1 rs2 rm, .fsqrtD rd rs1 rm,
      .fmaddD rd rs1 rs2 rs3 rm, .fmsubD rd rs1 rs2 rs3 rm, .fnmsubD rd rs1 rs2 rs3 rm, .fnmaddD rd rs1 rs2 rs3 rm,
      .fsgnjD rd rs1 rs2, .fsgnjnD rd rs1 rs2, .fsgnjxD rd rs1 rs2, .fminD rd rs1 rs2, .fmaxD rd rs1 rs2,
      .feqD rd rs1 rs2, .fltD rd rs1 rs2, .fleD rd rs1 rs2, .fclassD rd rs1, .fcvtWD rd rs1 rm, .fcvtWuD rd rs1 rm,
      .fcvtLD rd rs1 rm, .fcvtLuD rd rs1 rm, .fcvtDW rd rs1 rm, .fcvtDWu rd rs1 rm, .fcvtDL rd rs1 rm,
      .fcvtDLu rd rs1 rm, .fcvtSD rd rs1 rm, .fcvtDS rd rs1 rm] : List Instr),
      exec i s = illegalOutcome i s) ∧
    (hasQ s = false → ∀ i ∈ ([
      .faddQ rd rs1 rs2 rm, .fsubQ rd rs1 rs2 rm, .fmulQ rd rs1 rs2 rm, .fdivQ rd rs1 rs2 rm, .fsqrtQ rd rs1 rm,
      .fmaddQ rd rs1 rs2 rs3 rm, .fmsubQ rd rs1 rs2 rs3 rm, .fnmsubQ rd rs1 rs2 rs3 rm, .fnmaddQ rd rs1 rs2 rs3 rm,
      .fsgnjQ rd rs1 rs2, .fsgnjnQ rd rs1 rs2, .fsgnjxQ rd rs1 rs2, .fminQ rd rs1 rs2, .fmaxQ rd rs1 rs2,
      .feqQ rd rs1 rs2, .fltQ rd rs1 rs2, .fleQ rd rs1 rs2, .fclassQ rd rs1, .fcvtWQ rd rs1 rm, .fcvtWuQ rd rs1 rm,
      .fcvtLQ rd rs1 rm, .fcvtLuQ rd rs1 rm, .fcvtQW rd rs1 rm, .fcvtQWu rd rs1 rm, .fcvtQL rd rs1 rm,
      .fcvtQLu rd rs1 rm, .fcvtSQ rd rs1 rm, .fcvtQS rd rs1 rm, .fcvtDQ rd rs1 rm, .fcvtQD rd rs1 rm] : List Instr),
      exec i s = illegalOutcome i s) ∧
    (hasH s = false → ∀ i ∈ ([
      .faddH rd rs1 rs2 rm, .fsubH rd rs1 rs2 rm, .fmulH rd rs1 rs2 rm, .fdivH rd rs1 rs2 rm, .fsqrtH rd rs1 rm,
      .fmaddH rd rs1 rs2 rs3 rm, .fmsubH rd rs1 rs2 rs3 rm, .fnmsubH rd rs1 rs2 rs3 rm, .fnmaddH rd rs1 rs2 rs3 rm,
      .fsgnjH rd rs1 rs2, .fsgnjnH rd rs1 rs2, .fsgnjxH rd rs1 rs2, .fminH rd rs1 rs2, .fmaxH rd rs1 rs2,
      .feqH rd rs1 rs2, .fltH rd rs1 rs2, .fleH rd rs1 rs2, .fclassH rd rs1, .fcvtWH rd rs1 rm, .fcvtWuH rd rs1 rm,
      .fcvtLH rd rs1 rm, .fcvtLuH rd rs1 rm, .fcvtHW rd rs1 rm, .fcvtHWu rd rs1 rm, .fcvtHL rd rs1 rm,
      .fcvtHLu rd rs1 rm] : List Instr),
      exec i s = illegalOutcome i s) ∧
    (hasHmin s = false → ∀ i ∈ ([
      .fcvtSH rd rs1 rm, .fcvtHS rd rs1 rm] : List Instr),
      exec i s = illegalOutcome i s) ∧
    (hasHD s = false → ∀ i ∈ ([
      .fcvtDH rd rs1 rm, .fcvtHD rd rs1 rm] : List Instr),
      exec i s = illegalOutcome i s) ∧
    (hasHQ s = false → ∀ i ∈ ([
      .fcvtQH rd rs1 rm, .fcvtHQ rd rs1 rm] : List Instr),
      exec i s = illegalOutcome i s) ∧
    (s.cfg.ext.zfbfmin = false → ∀ i ∈ ([
      .fcvtBf16S rd rs1 rm, .fcvtSBf16 rd rs1 rm] : List Instr),
      exec i s = illegalOutcome i s) ∧
    (s.cfg.ext.zfa = false → ∀ i ∈ ([
      .fliS rd k, .fminmS rd rs1 rs2, .fmaxmS rd rs1 rs2, .froundS rd rs1 rm, .froundnxS rd rs1 rm,
      .fleqS rd rs1 rs2, .fltqS rd rs1 rs2] : List Instr),
      exec i s = illegalOutcome i s) ∧
    ((s.cfg.ext.zfa && s.cfg.ext.d) = false → ∀ i ∈ ([
      .fliD rd k, .fcvtmodWD rd rs1, .fmvhXD rd rs1, .fmvpDX rd rs1 rs2, .fminmD rd rs1 rs2, .fmaxmD rd rs1 rs2,
      .froundD rd rs1 rm, .froundnxD rd rs1 rm, .fleqD rd rs1 rs2, .fltqD rd rs1 rs2] : List Instr),
      exec i s = illegalOutcome i s) ∧
    ((s.cfg.ext.zfa && s.cfg.ext.q) = false → ∀ i ∈ ([
      .fliQ rd k, .fmvhXQ rd rs1, .fmvpQX rd rs1 rs2, .fminmQ rd rs1 rs2, .fmaxmQ rd rs1 rs2, .froundQ rd rs1 rm,
      .froundnxQ rd rs1 rm, .fleqQ rd rs1 rs2, .fltqQ rd rs1 rs2] : List Instr),
      exec i s = illegalOutcome i s) ∧
    ((s.cfg.ext.zfa && s.cfg.ext.zfh) = false → ∀ i ∈ ([
      .fminmH rd rs1 rs2, .fmaxmH rd rs1 rs2, .froundH rd rs1 rm, .froundnxH rd rs1 rm, .fleqH rd rs1 rs2,
      .fltqH rd rs1 rs2] : List Instr),
      exec i s = illegalOutcome i s) ∧
    ((s.cfg.ext.zfa && (s.cfg.ext.zfh || s.cfg.ext.zvfh)) = false → ∀ i ∈ ([
      .fliH rd k] : List Instr),
      exec i s = illegalOutcome i s) ∧
    (s.cfg.xlen = .rv32 → ∀ i ∈ ([
      .fcvtLS rd rs1 rm, .fcvtLuS rd rs1 rm, .fcvtSL rd rs1 rm, .fcvtSLu rd rs1 rm, .fcvtLD rd rs1 rm,
      .fcvtLuD rd rs1 rm, .fcvtDL rd rs1 rm, .fcvtDLu rd rs1 rm, .fmvXD rd rs1, .fmvDX rd rs1, .fcvtLQ rd rs1 rm,
      .fcvtLuQ rd rs1 rm, .fcvtQL rd rs1 rm, .fcvtQLu rd rs1 rm, .fcvtLH rd rs1 rm, .fcvtLuH rd rs1 rm,
      .fcvtHL rd rs1 rm, .fcvtHLu rd rs1 rm, .fmvhXQ rd rs1, .fmvpQX rd rs1 rs2] : List Instr),
      exec i s = illegalOutcome i s) ∧
    (s.cfg.xlen = .rv64 → ∀ i ∈ ([.fmvhXD rd rs1, .fmvpDX rd rs1 rs2] : List Instr), exec i s = illegalOutcome i s)

/-- The fields are rd, rs1, rs2, rs3 of the D arithmetic, sign injections, min/max and fused instructions, rs1 and rs2
of FEQ.D, FLT.D, FLE.D, rs1 of FCLASS.D and of the conversions from D, and rd of the conversions to D; the list of
each field is spelled out. That an odd register raises is the spec's own choice; the source says reserved (R111, D16;
log 15). -/
def Obligations.OddPairRegisterIsIllegal : Prop :=
  ∀ (rd rs1 rs2 rs3 : Reg) (rm : BitVec 3) (s : State), s.cfg.xlen = .rv32 → s.cfg.ext.zdinx = true →
    (rd.toNat % 2 = 1 → ∀ i ∈ ([
      .faddD rd rs1 rs2 rm, .fsubD rd rs1 rs2 rm, .fmulD rd rs1 rs2 rm, .fdivD rd rs1 rs2 rm, .fsqrtD rd rs1 rm,
      .fminD rd rs1 rs2, .fmaxD rd rs1 rs2, .fmaddD rd rs1 rs2 rs3 rm, .fmsubD rd rs1 rs2 rs3 rm,
      .fnmsubD rd rs1 rs2 rs3 rm, .fnmaddD rd rs1 rs2 rs3 rm, .fcvtDW rd rs1 rm, .fcvtDWu rd rs1 rm,
      .fcvtDL rd rs1 rm, .fcvtDLu rd rs1 rm, .fcvtDS rd rs1 rm, .fsgnjD rd rs1 rs2, .fsgnjnD rd rs1 rs2,
      .fsgnjxD rd rs1 rs2, .fcvtDH rd rs1 rm] : List Instr),
      exec i s = illegalOutcome i s) ∧
    (rs1.toNat % 2 = 1 → ∀ i ∈ ([
      .faddD rd rs1 rs2 rm, .fsubD rd rs1 rs2 rm, .fmulD rd rs1 rs2 rm, .fdivD rd rs1 rs2 rm, .fsqrtD rd rs1 rm,
      .fminD rd rs1 rs2, .fmaxD rd rs1 rs2, .fmaddD rd rs1 rs2 rs3 rm, .fmsubD rd rs1 rs2 rs3 rm,
      .fnmsubD rd rs1 rs2 rs3 rm, .fnmaddD rd rs1 rs2 rs3 rm, .fcvtWD rd rs1 rm, .fcvtWuD rd rs1 rm,
      .fcvtLD rd rs1 rm, .fcvtLuD rd rs1 rm, .fcvtSD rd rs1 rm, .fsgnjD rd rs1 rs2, .fsgnjnD rd rs1 rs2,
      .fsgnjxD rd rs1 rs2, .feqD rd rs1 rs2, .fltD rd rs1 rs2, .fleD rd rs1 rs2, .fclassD rd rs1, .fcvtHD rd rs1 rm] : List Instr),
      exec i s = illegalOutcome i s) ∧
    (rs2.toNat % 2 = 1 → ∀ i ∈ ([
      .faddD rd rs1 rs2 rm, .fsubD rd rs1 rs2 rm, .fmulD rd rs1 rs2 rm, .fdivD rd rs1 rs2 rm, .fminD rd rs1 rs2,
      .fmaxD rd rs1 rs2, .fmaddD rd rs1 rs2 rs3 rm, .fmsubD rd rs1 rs2 rs3 rm, .fnmsubD rd rs1 rs2 rs3 rm,
      .fnmaddD rd rs1 rs2 rs3 rm, .fsgnjD rd rs1 rs2, .fsgnjnD rd rs1 rs2, .fsgnjxD rd rs1 rs2, .feqD rd rs1 rs2,
      .fltD rd rs1 rs2, .fleD rd rs1 rs2] : List Instr),
      exec i s = illegalOutcome i s) ∧
    (rs3.toNat % 2 = 1 → ∀ i ∈ ([
      .fmaddD rd rs1 rs2 rs3 rm, .fmsubD rd rs1 rs2 rs3 rm, .fnmsubD rd rs1 rs2 rs3 rm, .fnmaddD rd rs1 rs2 rs3 rm] : List Instr),
      exec i s = illegalOutcome i s)

/-- With a well-formed EXT that has Zfinx, FLW, FSW, FMV.W.X, FMV.X.W, FLD, FSD, FMV.D.X, FMV.X.D, FLH, FSH, FMV.H.X
and FMV.X.H are illegal in every state. That removed encodings raise is the spec's own choice (R113, D15; log 14). -/
def Obligations.TransfersAreIllegalUnderZfinx : Prop :=
  ∀ (rd rs1 rs2 : Reg) (imm : BitVec 12) (s : State), s.cfg.ext.wf = true → s.cfg.ext.zfinx = true →
    ∀ i ∈ ([
      .flw rd rs1 imm, .fsw rs2 rs1 imm, .fmvWX rd rs1, .fmvXW rd rs1, .fld rd rs1 imm, .fsd rs2 rs1 imm,
      .fmvDX rd rs1, .fmvXD rd rs1, .flh rd rs1 imm, .fsh rs2 rs1 imm, .fmvHX rd rs1, .fmvXH rd rs1] : List Instr),
      exec i s = illegalOutcome i s

/-- Where the premise FS_ON fails and EXT has no Zfinx, every floating-point instruction and every access to fflags,
frm and fcsr raises IllegalInstruction; under Zfinx the outcome does not depend on FS. That FS is one premise FS_ON
for a whole run, and that FS Off makes every such instruction illegal, is the spec's own choice from general knowledge
(R35, D9; log 5). -/
def Obligations.FsOffDisablesEveryInstruction : Prop :=
  (∀ (i : Instr) (s : State), s.cfg.fsOn = false → s.cfg.ext.zfinx = false → csrKnown i = true →
    exec i s = illegalOutcome i s) ∧
  (∀ (i : Instr) (s : State) (b : Bool), s.cfg.ext.zfinx = true →
    exec i { s with cfg := { s.cfg with fsOn := b } } =
      mapNext (fun t => { t with cfg := { t.cfg with fsOn := b } }) (exec i s))

/-- A fault of an instruction is IllegalInstruction of its own word, or, for a load or a store, the misaligned or the
access-fault exception of its own kind with its effective address. A refusal is a CSR number other than 0x001, 0x002
and 0x003, or a store with a byte of its access in [PROG_BASE, PROG_END). That a fault ends the run is the spec's own
choice (R517, D7; log 12), and so are the two refusals (D17, log 16; D13, log 17). -/
def Obligations.WhatCanStopAnInstruction : Prop :=
  ∀ (i : Instr) (s : State),
    (∀ (e : Exception) (p : XWord), exec i s = .fault (.trap e p) →
      e = .illegalInstruction (encode i) ∨
      ∃ fmt rs1 imm, memAccess i = some (fmt, rs1, imm) ∧
        (isStore i = false → e = .loadAddressMisaligned (s.effAddr rs1 imm) ∨ e = .loadAccessFault (s.effAddr rs1 imm)) ∧
        (isStore i = true →
          e = .storeAddressMisaligned (s.effAddr rs1 imm) ∨ e = .storeAccessFault (s.effAddr rs1 imm))) ∧
    (∀ r : Refusal, exec i s = .refused r →
      (∃ rd csr, dest i = .csr rd csr ∧ csr ∉ [0x001#12, 0x002#12, 0x003#12] ∧ r = .csrOutOfScope csr) ∨
      (∃ fmt rs1 imm, dest i = .mem fmt rs1 imm ∧ r = .storeToProgramText (s.effAddr rs1 imm) ∧
        ∃ k < fmt.width / 8, s.cfg.progBase ≤ s.byteAddr (s.effAddr rs1 imm) k ∧
          s.byteAddr (s.effAddr rs1 imm) k < s.cfg.progEnd))

/-- When enabled, with F, D, Q, or one of Zfh, Zfhmin, Zfbfmin, the access aligned (or MISALIGNED = invisible) and
every byte in MEM, the load answers the next state that writes f[rd] and advances the pc; byte k of f[rd] is the byte
at trunc_XLEN(ea + k) and every bit from 8n to FLEN is 1. The byte order is the spec's own choice (R62, D4; log 8),
MISALIGNED a parameter of it (R66, D5; log 18). -/
def Obligations.LoadsCompleteWithTheirBytes : Prop :=
  ∀ (rd rs1 : Reg) (imm : BitVec 12) (s : State), s.fpEnabled = true →
    let ea := s.effAddr rs1 imm
    let completes (i : Instr) (n : Nat) : Prop :=
      (ea.toNat % n = 0 ∨ s.cfg.misaligned = .invisible) → (∀ k < n, s.mapped (s.byteAddr ea k) = true) →
      ∃ v : FWord, exec i s = .next (fDone s rd v) ∧
        (∀ k < n, ((fDone s rd v).readF rd).extractLsb' (8 * k) 8 = memRead s.mem (s.byteAddr ea k)) ∧
        (∀ b, 8 * n ≤ b → b < s.flen → ((fDone s rd v).readF rd).getLsbD b = true)
    (s.cfg.ext.f = true → completes (.flw rd rs1 imm) 4) ∧
    (s.cfg.ext.d = true → completes (.fld rd rs1 imm) 8) ∧
    (s.cfg.ext.q = true → completes (.flq rd rs1 imm) 16) ∧
    (hasHTransfer s = true → completes (.flh rd rs1 imm) 2)

/-- When enabled, with F, D, Q, or one of Zfh, Zfhmin, Zfbfmin, memory canonical, the access aligned (or MISALIGNED =
invisible), every byte in MEM and none in the program text, the store answers a next state that differs in memory and
pc only; afterwards the byte at trunc_XLEN(ea + k) is byte k of the raw f[rs2]. The byte order is the spec's own
choice (R62, D4; log 8), and so are MISALIGNED (R66, D5; log 18) and the premise on the program text (R74, D13; log
17). -/
def Obligations.StoresCompleteWithTheirBytes : Prop :=
  ∀ (rs2 rs1 : Reg) (imm : BitVec 12) (s : State), s.fpEnabled = true → Memory.wf s.mem = true →
    let ea := s.effAddr rs1 imm
    let completes (i : Instr) (n : Nat) : Prop :=
      (ea.toNat % n = 0 ∨ s.cfg.misaligned = .invisible) → (∀ k < n, s.mapped (s.byteAddr ea k) = true) →
      (∀ k < n, s.byteAddr ea k < s.cfg.progBase ∨ s.cfg.progEnd ≤ s.byteAddr ea k) →
      ∃ m, exec i s = .next { s with mem := m, pc := s.trunc (s.pc + 4) } ∧
        ∀ k < n, memRead m (s.byteAddr ea k) = (s.readF rs2).extractLsb' (8 * k) 8
    (s.cfg.ext.f = true → completes (.fsw rs2 rs1 imm) 4) ∧
    (s.cfg.ext.d = true → completes (.fsd rs2 rs1 imm) 8) ∧
    (s.cfg.ext.q = true → completes (.fsq rs2 rs1 imm) 16) ∧
    (hasHTransfer s = true → completes (.fsh rs2 rs1 imm) 2)

/-- For FLW, FLD, FLQ, FLH and FSW, FSD, FSQ, FSH with their extension: if MISALIGNED = trap and ea is no multiple of
the width, the fault is the misaligned exception of the kind with ea, even when bytes are missing; else if some byte
of the access is outside MEM, the access fault of the kind with ea; else, for a store with a byte in [PROG_BASE,
PROG_END), a refusal. The priority (R519, D7; log 11), the access fault (D11; log 18), MISALIGNED (D5; log 18) and the
refusal (D13; log 17) are the spec's own choice. -/
def Obligations.AddressExceptions : Prop :=
  ∀ (rd rs2 rs1 : Reg) (imm : BitVec 12) (s : State), s.fpEnabled = true →
    let ea := s.effAddr rs1 imm
    let raisesLoad (i : Instr) (n : Nat) : Prop :=
      (s.cfg.misaligned = .trap → ea.toNat % n ≠ 0 →
        exec i s = .fault (.trap (.loadAddressMisaligned ea) s.pc)) ∧
      ((ea.toNat % n = 0 ∨ s.cfg.misaligned = .invisible) → (∃ k < n, s.mapped (s.byteAddr ea k) = false) →
        exec i s = .fault (.trap (.loadAccessFault ea) s.pc))
    let raisesStore (i : Instr) (n : Nat) : Prop :=
      (s.cfg.misaligned = .trap → ea.toNat % n ≠ 0 →
        exec i s = .fault (.trap (.storeAddressMisaligned ea) s.pc)) ∧
      ((ea.toNat % n = 0 ∨ s.cfg.misaligned = .invisible) → (∃ k < n, s.mapped (s.byteAddr ea k) = false) →
        exec i s = .fault (.trap (.storeAccessFault ea) s.pc)) ∧
      ((ea.toNat % n = 0 ∨ s.cfg.misaligned = .invisible) → (∀ k < n, s.mapped (s.byteAddr ea k) = true) →
        (∃ k < n, s.cfg.progBase ≤ s.byteAddr ea k ∧ s.byteAddr ea k < s.cfg.progEnd) →
        exec i s = .refused (.storeToProgramText ea))
    (s.cfg.ext.f = true → raisesLoad (.flw rd rs1 imm) 4) ∧
    (s.cfg.ext.d = true → raisesLoad (.fld rd rs1 imm) 8) ∧
    (s.cfg.ext.q = true → raisesLoad (.flq rd rs1 imm) 16) ∧
    (hasHTransfer s = true → raisesLoad (.flh rd rs1 imm) 2) ∧
    (s.cfg.ext.f = true → raisesStore (.fsw rs2 rs1 imm) 4) ∧
    (s.cfg.ext.d = true → raisesStore (.fsd rs2 rs1 imm) 8) ∧
    (s.cfg.ext.q = true → raisesStore (.fsq rs2 rs1 imm) 16) ∧
    (hasHTransfer s = true → raisesStore (.fsh rs2 rs1 imm) 2)

/-- With FLEN = 64, if FSD of f[r] answers t and FLD into f[q] with the same base and offset, run in t, answers u,
then f[q] in u is f[r] in s bit for bit, whatever it held; the same for FSQ and FLQ with FLEN = 128. Memory is
canonical. -/
def Obligations.StoreThenLoadRestoresRegister : Prop :=
  ∀ (q r rs1 : Reg) (imm : BitVec 12) (s t u : State), Memory.wf s.mem = true →
    (s.flen = 64 → exec (.fsd r rs1 imm) s = .next t → exec (.fld q rs1 imm) t = .next u →
      u.readF q = s.readF r) ∧
    (s.flen = 128 → exec (.fsq r rs1 imm) s = .next t → exec (.flq q rs1 imm) t = .next u →
      u.readF q = s.readF r)

/-- When enabled, with the format's extension, legal register pairs and a mode that resolves, each of the twenty
answers the next state that writes the operation's result through the destination write, ORs its flags and advances
the pc; operands are read through the unboxing or x-register read. FSQRT names no rs2, so its rs2 is under no pair
check. -/
def Obligations.ArithmeticCompletes : Prop :=
  ∀ (rd rs1 rs2 : Reg) (rm : BitVec 3) (s : State) (mode : Mode), s.fpEnabled = true → s.resolveMode rm = some mode →
    (hasS s = true → 
     exec (.faddS rd rs1 rs2 rm) s = .next (fpDone s .s rd (fadd .s mode (s.readFp .s rs1) (s.readFp .s rs2))) ∧
     exec (.fsubS rd rs1 rs2 rm) s = .next (fpDone s .s rd (fsub .s mode (s.readFp .s rs1) (s.readFp .s rs2))) ∧
     exec (.fmulS rd rs1 rs2 rm) s = .next (fpDone s .s rd (fmul .s mode (s.readFp .s rs1) (s.readFp .s rs2))) ∧
     exec (.fdivS rd rs1 rs2 rm) s = .next (fpDone s .s rd (fdiv .s mode (s.readFp .s rs1) (s.readFp .s rs2)))) ∧
    (hasD s = true → pairsOk s [rd, rs1, rs2] = true → 
     exec (.faddD rd rs1 rs2 rm) s = .next (fpDone s .d rd (fadd .d mode (s.readFp .d rs1) (s.readFp .d rs2))) ∧
     exec (.fsubD rd rs1 rs2 rm) s = .next (fpDone s .d rd (fsub .d mode (s.readFp .d rs1) (s.readFp .d rs2))) ∧
     exec (.fmulD rd rs1 rs2 rm) s = .next (fpDone s .d rd (fmul .d mode (s.readFp .d rs1) (s.readFp .d rs2))) ∧
     exec (.fdivD rd rs1 rs2 rm) s = .next (fpDone s .d rd (fdiv .d mode (s.readFp .d rs1) (s.readFp .d rs2)))) ∧
    (hasQ s = true → 
     exec (.faddQ rd rs1 rs2 rm) s = .next (fpDone s .q rd (fadd .q mode (s.readFp .q rs1) (s.readFp .q rs2))) ∧
     exec (.fsubQ rd rs1 rs2 rm) s = .next (fpDone s .q rd (fsub .q mode (s.readFp .q rs1) (s.readFp .q rs2))) ∧
     exec (.fmulQ rd rs1 rs2 rm) s = .next (fpDone s .q rd (fmul .q mode (s.readFp .q rs1) (s.readFp .q rs2))) ∧
     exec (.fdivQ rd rs1 rs2 rm) s = .next (fpDone s .q rd (fdiv .q mode (s.readFp .q rs1) (s.readFp .q rs2)))) ∧
    (hasH s = true → 
     exec (.faddH rd rs1 rs2 rm) s = .next (fpDone s .h rd (fadd .h mode (s.readFp .h rs1) (s.readFp .h rs2))) ∧
     exec (.fsubH rd rs1 rs2 rm) s = .next (fpDone s .h rd (fsub .h mode (s.readFp .h rs1) (s.readFp .h rs2))) ∧
     exec (.fmulH rd rs1 rs2 rm) s = .next (fpDone s .h rd (fmul .h mode (s.readFp .h rs1) (s.readFp .h rs2))) ∧
     exec (.fdivH rd rs1 rs2 rm) s = .next (fpDone s .h rd (fdiv .h mode (s.readFp .h rs1) (s.readFp .h rs2)))) ∧
    (hasS s = true → 
     exec (.fsqrtS rd rs1 rm) s = .next (fpDone s .s rd (fsqrt .s mode (s.readFp .s rs1)))) ∧
    (hasD s = true → pairsOk s [rd, rs1] = true → 
     exec (.fsqrtD rd rs1 rm) s = .next (fpDone s .d rd (fsqrt .d mode (s.readFp .d rs1)))) ∧
    (hasQ s = true → 
     exec (.fsqrtQ rd rs1 rm) s = .next (fpDone s .q rd (fsqrt .q mode (s.readFp .q rs1)))) ∧
    (hasH s = true → 
     exec (.fsqrtH rd rs1 rm) s = .next (fpDone s .h rd (fsqrt .h mode (s.readFp .h rs1))))

/-- FMADD negates neither, FMSUB the addend, FNMSUB the product, FNMADD both. When enabled, with the format's
extension, legal register pairs and a mode that resolves. -/
def Obligations.FusedMultiplyAddCompletes : Prop :=
  ∀ (rd rs1 rs2 rs3 : Reg) (rm : BitVec 3) (s : State) (mode : Mode), s.fpEnabled = true → s.resolveMode rm = some mode →
    (hasS s = true → 
     exec (.fmaddS rd rs1 rs2 rs3 rm) s = .next (fpDone s .s rd (ffma .s false false mode (s.readFp .s rs1) (s.readFp .s rs2) (s.readFp .s rs3))) ∧
     exec (.fmsubS rd rs1 rs2 rs3 rm) s = .next (fpDone s .s rd (ffma .s false true mode (s.readFp .s rs1) (s.readFp .s rs2) (s.readFp .s rs3))) ∧
     exec (.fnmsubS rd rs1 rs2 rs3 rm) s = .next (fpDone s .s rd (ffma .s true false mode (s.readFp .s rs1) (s.readFp .s rs2) (s.readFp .s rs3))) ∧
     exec (.fnmaddS rd rs1 rs2 rs3 rm) s = .next (fpDone s .s rd (ffma .s true true mode (s.readFp .s rs1) (s.readFp .s rs2) (s.readFp .s rs3)))) ∧
    (hasD s = true → pairsOk s [rd, rs1, rs2, rs3] = true → 
     exec (.fmaddD rd rs1 rs2 rs3 rm) s = .next (fpDone s .d rd (ffma .d false false mode (s.readFp .d rs1) (s.readFp .d rs2) (s.readFp .d rs3))) ∧
     exec (.fmsubD rd rs1 rs2 rs3 rm) s = .next (fpDone s .d rd (ffma .d false true mode (s.readFp .d rs1) (s.readFp .d rs2) (s.readFp .d rs3))) ∧
     exec (.fnmsubD rd rs1 rs2 rs3 rm) s = .next (fpDone s .d rd (ffma .d true false mode (s.readFp .d rs1) (s.readFp .d rs2) (s.readFp .d rs3))) ∧
     exec (.fnmaddD rd rs1 rs2 rs3 rm) s = .next (fpDone s .d rd (ffma .d true true mode (s.readFp .d rs1) (s.readFp .d rs2) (s.readFp .d rs3)))) ∧
    (hasQ s = true → 
     exec (.fmaddQ rd rs1 rs2 rs3 rm) s = .next (fpDone s .q rd (ffma .q false false mode (s.readFp .q rs1) (s.readFp .q rs2) (s.readFp .q rs3))) ∧
     exec (.fmsubQ rd rs1 rs2 rs3 rm) s = .next (fpDone s .q rd (ffma .q false true mode (s.readFp .q rs1) (s.readFp .q rs2) (s.readFp .q rs3))) ∧
     exec (.fnmsubQ rd rs1 rs2 rs3 rm) s = .next (fpDone s .q rd (ffma .q true false mode (s.readFp .q rs1) (s.readFp .q rs2) (s.readFp .q rs3))) ∧
     exec (.fnmaddQ rd rs1 rs2 rs3 rm) s = .next (fpDone s .q rd (ffma .q true true mode (s.readFp .q rs1) (s.readFp .q rs2) (s.readFp .q rs3)))) ∧
    (hasH s = true → 
     exec (.fmaddH rd rs1 rs2 rs3 rm) s = .next (fpDone s .h rd (ffma .h false false mode (s.readFp .h rs1) (s.readFp .h rs2) (s.readFp .h rs3))) ∧
     exec (.fmsubH rd rs1 rs2 rs3 rm) s = .next (fpDone s .h rd (ffma .h false true mode (s.readFp .h rs1) (s.readFp .h rs2) (s.readFp .h rs3))) ∧
     exec (.fnmsubH rd rs1 rs2 rs3 rm) s = .next (fpDone s .h rd (ffma .h true false mode (s.readFp .h rs1) (s.readFp .h rs2) (s.readFp .h rs3))) ∧
     exec (.fnmaddH rd rs1 rs2 rs3 rm) s = .next (fpDone s .h rd (ffma .h true true mode (s.readFp .h rs1) (s.readFp .h rs2) (s.readFp .h rs3))))

/-- When enabled, with the format's extension and legal register pairs, each completes with the operands read through
the unboxing or x-register read; every bit of the result below the sign is rs1's, NaN payloads included, and the sign
is rs2's for FSGNJ, its opposite for FSGNJN, the XOR of both for FSGNJX; no flag is raised. -/
def Obligations.SignInjectionCompletes : Prop :=
  (∀ (rd rs1 rs2 : Reg) (s : State), s.fpEnabled = true →
    (hasS s = true → 
     exec (.fsgnjS rd rs1 rs2) s = .next (fpDone s .s rd (fsgnj .s .j (s.readFp .s rs1) (s.readFp .s rs2))) ∧
     exec (.fsgnjnS rd rs1 rs2) s = .next (fpDone s .s rd (fsgnj .s .jn (s.readFp .s rs1) (s.readFp .s rs2))) ∧
     exec (.fsgnjxS rd rs1 rs2) s = .next (fpDone s .s rd (fsgnj .s .jx (s.readFp .s rs1) (s.readFp .s rs2)))) ∧
    (hasD s = true → pairsOk s [rd, rs1, rs2] = true → 
     exec (.fsgnjD rd rs1 rs2) s = .next (fpDone s .d rd (fsgnj .d .j (s.readFp .d rs1) (s.readFp .d rs2))) ∧
     exec (.fsgnjnD rd rs1 rs2) s = .next (fpDone s .d rd (fsgnj .d .jn (s.readFp .d rs1) (s.readFp .d rs2))) ∧
     exec (.fsgnjxD rd rs1 rs2) s = .next (fpDone s .d rd (fsgnj .d .jx (s.readFp .d rs1) (s.readFp .d rs2)))) ∧
    (hasQ s = true → 
     exec (.fsgnjQ rd rs1 rs2) s = .next (fpDone s .q rd (fsgnj .q .j (s.readFp .q rs1) (s.readFp .q rs2))) ∧
     exec (.fsgnjnQ rd rs1 rs2) s = .next (fpDone s .q rd (fsgnj .q .jn (s.readFp .q rs1) (s.readFp .q rs2))) ∧
     exec (.fsgnjxQ rd rs1 rs2) s = .next (fpDone s .q rd (fsgnj .q .jx (s.readFp .q rs1) (s.readFp .q rs2)))) ∧
    (hasH s = true → 
     exec (.fsgnjH rd rs1 rs2) s = .next (fpDone s .h rd (fsgnj .h .j (s.readFp .h rs1) (s.readFp .h rs2))) ∧
     exec (.fsgnjnH rd rs1 rs2) s = .next (fpDone s .h rd (fsgnj .h .jn (s.readFp .h rs1) (s.readFp .h rs2))) ∧
     exec (.fsgnjxH rd rs1 rs2) s = .next (fpDone s .h rd (fsgnj .h .jx (s.readFp .h rs1) (s.readFp .h rs2))))) ∧
  (∀ (fmt : Fmt) (a b : Bits fmt),
    (∀ kind : SignKind, (fsgnj fmt kind a b).2 = 0#5 ∧
      ∀ n, n < fmt.width - 1 → (fsgnj fmt kind a b).1.getLsbD n = a.getLsbD n) ∧
    (fsgnj fmt .j a b).1.msb = b.msb ∧ (fsgnj fmt .jn a b).1.msb = !b.msb ∧
    (fsgnj fmt .jx a b).1.msb = (a.msb ^^ b.msb)) ∧
  (∀ (flen : Nat) (fmt : Fmt) (r : FWord), flen ∈ [32, 64, 128] → fmt.width ≤ flen →
    (∃ b, fmt.width ≤ b ∧ b < flen ∧ r.getLsbD b = false) →
    unbox flen fmt r = cnan fmt ∧ signOf (unbox flen fmt r) = false)

/-- When enabled, with the format's extension (Zfa for FMINM, FMAXM) and legal register pairs, each completes. Without
a NaN the result is one of the operands, at most (at least) both in value, and of two zeros of unlike sign -0 (+0).
With one NaN FMIN, FMAX give the other operand's bits; with two, and for FMINM, FMAXM with any, the canonical NaN. NV
exactly when an operand is signaling. -/
def Obligations.MinMaxCompletes : Prop :=
  (∀ (rd rs1 rs2 : Reg) (s : State), s.fpEnabled = true →
    (hasS s = true → 
     exec (.fminS rd rs1 rs2) s = .next (fpDone s .s rd (fminmax .s false (s.readFp .s rs1) (s.readFp .s rs2))) ∧
     exec (.fmaxS rd rs1 rs2) s = .next (fpDone s .s rd (fminmax .s true (s.readFp .s rs1) (s.readFp .s rs2)))) ∧
    (hasD s = true → pairsOk s [rd, rs1, rs2] = true → 
     exec (.fminD rd rs1 rs2) s = .next (fpDone s .d rd (fminmax .d false (s.readFp .d rs1) (s.readFp .d rs2))) ∧
     exec (.fmaxD rd rs1 rs2) s = .next (fpDone s .d rd (fminmax .d true (s.readFp .d rs1) (s.readFp .d rs2)))) ∧
    (hasQ s = true → 
     exec (.fminQ rd rs1 rs2) s = .next (fpDone s .q rd (fminmax .q false (s.readFp .q rs1) (s.readFp .q rs2))) ∧
     exec (.fmaxQ rd rs1 rs2) s = .next (fpDone s .q rd (fminmax .q true (s.readFp .q rs1) (s.readFp .q rs2)))) ∧
    (hasH s = true → 
     exec (.fminH rd rs1 rs2) s = .next (fpDone s .h rd (fminmax .h false (s.readFp .h rs1) (s.readFp .h rs2))) ∧
     exec (.fmaxH rd rs1 rs2) s = .next (fpDone s .h rd (fminmax .h true (s.readFp .h rs1) (s.readFp .h rs2)))) ∧
    (s.cfg.ext.zfa = true →
     exec (.fminmS rd rs1 rs2) s = .next (fpDone s .s rd (fminmaxm .s false (s.readFp .s rs1) (s.readFp .s rs2))) ∧
     exec (.fmaxmS rd rs1 rs2) s = .next (fpDone s .s rd (fminmaxm .s true (s.readFp .s rs1) (s.readFp .s rs2)))) ∧
    (s.cfg.ext.zfa = true ∧ s.cfg.ext.d = true →
     exec (.fminmD rd rs1 rs2) s = .next (fpDone s .d rd (fminmaxm .d false (s.readFp .d rs1) (s.readFp .d rs2))) ∧
     exec (.fmaxmD rd rs1 rs2) s = .next (fpDone s .d rd (fminmaxm .d true (s.readFp .d rs1) (s.readFp .d rs2)))) ∧
    (s.cfg.ext.zfa = true ∧ s.cfg.ext.q = true →
     exec (.fminmQ rd rs1 rs2) s = .next (fpDone s .q rd (fminmaxm .q false (s.readFp .q rs1) (s.readFp .q rs2))) ∧
     exec (.fmaxmQ rd rs1 rs2) s = .next (fpDone s .q rd (fminmaxm .q true (s.readFp .q rs1) (s.readFp .q rs2)))) ∧
    (s.cfg.ext.zfa = true ∧ s.cfg.ext.zfh = true →
     exec (.fminmH rd rs1 rs2) s = .next (fpDone s .h rd (fminmaxm .h false (s.readFp .h rs1) (s.readFp .h rs2))) ∧
     exec (.fmaxmH rd rs1 rs2) s = .next (fpDone s .h rd (fminmaxm .h true (s.readFp .h rs1) (s.readFp .h rs2))))) ∧
  (∀ (fmt : Fmt) (a b : Bits fmt),
    let fl : FlagSet := if isSNaN a = true ∨ isSNaN b = true then 0b10000#5 else 0#5
    (isNaN a = false → isNaN b = false →
      let lo := (fminmax fmt false a b).1
      let hi := (fminmax fmt true a b).1
      (lo = a ∨ lo = b) ∧ (hi = a ∨ hi = b) ∧ extOf lo ≤ extOf a ∧ extOf lo ≤ extOf b ∧ extOf a ≤ extOf hi ∧
        extOf b ≤ extOf hi) ∧
    (isZero a = true → isZero b = true → signOf a ≠ signOf b →
      (fminmax fmt false a b).1 = zeroOf fmt true ∧ (fminmax fmt true a b).1 = zeroOf fmt false) ∧
    (∀ m : Bool, (fminmax fmt m a b).2 = fl ∧ (fminmaxm fmt m a b).2 = fl ∧
      (isNaN a = true → isNaN b = false → (fminmax fmt m a b).1 = b) ∧
      (isNaN a = false → isNaN b = true → (fminmax fmt m a b).1 = a) ∧
      (isNaN a = true → isNaN b = true → (fminmax fmt m a b).1 = cnan fmt) ∧
      (isNaN a = true ∨ isNaN b = true → (fminmaxm fmt m a b).1 = cnan fmt) ∧
      (isNaN a = false → isNaN b = false → fminmaxm fmt m a b = fminmax fmt m a b)))

/-- When enabled, with Zfa, the format's extension and a mode that resolves, each completes. FROUND raises NV for a
signaling NaN and nothing else, so only FROUNDNX can raise NX. -/
def Obligations.RoundToIntegralCompletes : Prop :=
  (∀ (rd rs1 : Reg) (rm : BitVec 3) (s : State) (mode : Mode), s.fpEnabled = true → s.resolveMode rm = some mode →
    (s.cfg.ext.zfa = true →
     exec (.froundS rd rs1 rm) s = .next (fpDone s .s rd (fround .s false mode (s.readFp .s rs1))) ∧
     exec (.froundnxS rd rs1 rm) s = .next (fpDone s .s rd (fround .s true mode (s.readFp .s rs1)))) ∧
    (s.cfg.ext.zfa = true ∧ s.cfg.ext.d = true →
     exec (.froundD rd rs1 rm) s = .next (fpDone s .d rd (fround .d false mode (s.readFp .d rs1))) ∧
     exec (.froundnxD rd rs1 rm) s = .next (fpDone s .d rd (fround .d true mode (s.readFp .d rs1)))) ∧
    (s.cfg.ext.zfa = true ∧ s.cfg.ext.q = true →
     exec (.froundQ rd rs1 rm) s = .next (fpDone s .q rd (fround .q false mode (s.readFp .q rs1))) ∧
     exec (.froundnxQ rd rs1 rm) s = .next (fpDone s .q rd (fround .q true mode (s.readFp .q rs1)))) ∧
    (s.cfg.ext.zfa = true ∧ s.cfg.ext.zfh = true →
     exec (.froundH rd rs1 rm) s = .next (fpDone s .h rd (fround .h false mode (s.readFp .h rs1))) ∧
     exec (.froundnxH rd rs1 rm) s = .next (fpDone s .h rd (fround .h true mode (s.readFp .h rs1))))) ∧
  (∀ (fmt : Fmt) (mode : Mode) (a : Bits fmt),
    (fround fmt false mode a).2 = (if isSNaN a = true then 0b10000#5 else 0#5))

/-- When enabled, with the format's extension (Zfa for FLEQ, FLTQ) and even source pairs where they must be, x[rd] is
the one bit, zero-extended. Without a NaN the bit is the comparison of the values, the two zeros equal and the
infinities at the ends, and no flag is raised; with a NaN the bit is 0, NV always for FLT and FLE, and only when an
operand is signaling for FEQ, FLEQ, FLTQ. -/
def Obligations.ComparesComplete : Prop :=
  (∀ (rd rs1 rs2 : Reg) (s : State), s.fpEnabled = true →
    let bitDone (rd : Reg) (r : Bool × FlagSet) : State := xDone s rd (if r.1 then 1 else 0) r.2
    (hasS s = true → 
     exec (.feqS rd rs1 rs2) s = .next (bitDone rd (fcmp .s .eq (s.readFp .s rs1) (s.readFp .s rs2))) ∧
     exec (.fltS rd rs1 rs2) s = .next (bitDone rd (fcmp .s .lt (s.readFp .s rs1) (s.readFp .s rs2))) ∧
     exec (.fleS rd rs1 rs2) s = .next (bitDone rd (fcmp .s .le (s.readFp .s rs1) (s.readFp .s rs2)))) ∧
    (hasD s = true → pairsOk s [rs1, rs2] = true → 
     exec (.feqD rd rs1 rs2) s = .next (bitDone rd (fcmp .d .eq (s.readFp .d rs1) (s.readFp .d rs2))) ∧
     exec (.fltD rd rs1 rs2) s = .next (bitDone rd (fcmp .d .lt (s.readFp .d rs1) (s.readFp .d rs2))) ∧
     exec (.fleD rd rs1 rs2) s = .next (bitDone rd (fcmp .d .le (s.readFp .d rs1) (s.readFp .d rs2)))) ∧
    (hasQ s = true → 
     exec (.feqQ rd rs1 rs2) s = .next (bitDone rd (fcmp .q .eq (s.readFp .q rs1) (s.readFp .q rs2))) ∧
     exec (.fltQ rd rs1 rs2) s = .next (bitDone rd (fcmp .q .lt (s.readFp .q rs1) (s.readFp .q rs2))) ∧
     exec (.fleQ rd rs1 rs2) s = .next (bitDone rd (fcmp .q .le (s.readFp .q rs1) (s.readFp .q rs2)))) ∧
    (hasH s = true → 
     exec (.feqH rd rs1 rs2) s = .next (bitDone rd (fcmp .h .eq (s.readFp .h rs1) (s.readFp .h rs2))) ∧
     exec (.fltH rd rs1 rs2) s = .next (bitDone rd (fcmp .h .lt (s.readFp .h rs1) (s.readFp .h rs2))) ∧
     exec (.fleH rd rs1 rs2) s = .next (bitDone rd (fcmp .h .le (s.readFp .h rs1) (s.readFp .h rs2)))) ∧
    (s.cfg.ext.zfa = true →
     exec (.fleqS rd rs1 rs2) s = .next (bitDone rd (fcmp .s .leq (s.readFp .s rs1) (s.readFp .s rs2))) ∧
     exec (.fltqS rd rs1 rs2) s = .next (bitDone rd (fcmp .s .ltq (s.readFp .s rs1) (s.readFp .s rs2)))) ∧
    (s.cfg.ext.zfa = true ∧ s.cfg.ext.d = true →
     exec (.fleqD rd rs1 rs2) s = .next (bitDone rd (fcmp .d .leq (s.readFp .d rs1) (s.readFp .d rs2))) ∧
     exec (.fltqD rd rs1 rs2) s = .next (bitDone rd (fcmp .d .ltq (s.readFp .d rs1) (s.readFp .d rs2)))) ∧
    (s.cfg.ext.zfa = true ∧ s.cfg.ext.q = true →
     exec (.fleqQ rd rs1 rs2) s = .next (bitDone rd (fcmp .q .leq (s.readFp .q rs1) (s.readFp .q rs2))) ∧
     exec (.fltqQ rd rs1 rs2) s = .next (bitDone rd (fcmp .q .ltq (s.readFp .q rs1) (s.readFp .q rs2)))) ∧
    (s.cfg.ext.zfa = true ∧ s.cfg.ext.zfh = true →
     exec (.fleqH rd rs1 rs2) s = .next (bitDone rd (fcmp .h .leq (s.readFp .h rs1) (s.readFp .h rs2))) ∧
     exec (.fltqH rd rs1 rs2) s = .next (bitDone rd (fcmp .h .ltq (s.readFp .h rs1) (s.readFp .h rs2))))) ∧
  (∀ (fmt : Fmt) (a b : Bits fmt),
    (isNaN a = false → isNaN b = false →
      (∀ op : CmpOp, (fcmp fmt op a b).2 = 0#5) ∧
      ((fcmp fmt .eq a b).1 = true ↔ extOf a = extOf b) ∧
      (∀ op ∈ [CmpOp.lt, .ltq], (fcmp fmt op a b).1 = true ↔ extOf a < extOf b) ∧
      (∀ op ∈ [CmpOp.le, .leq], (fcmp fmt op a b).1 = true ↔ extOf a ≤ extOf b)) ∧
    (isNaN a = true ∨ isNaN b = true →
      (∀ op ∈ [CmpOp.lt, .le], fcmp fmt op a b = (false, 0b10000#5)) ∧
      (∀ op ∈ [CmpOp.eq, .ltq, .leq],
        fcmp fmt op a b = (false, if isSNaN a = true ∨ isSNaN b = true then 0b10000#5 else 0#5))))

/-- When enabled, with the format's extension and an even source pair where it must be: x[rd] has the bit of the class
of the operand as it is read, from 0x001 for minus infinity to 0x200 for a quiet NaN, exactly one bit, and fflags is
unchanged. -/
def Obligations.ClassifyCompletes : Prop :=
  ∀ (rd rs1 : Reg) (s : State), s.fpEnabled = true →
    let mask {fmt : Fmt} (v : Bits fmt) : XWord :=
      let normal := isFinite v && decide (0 < expOf v)
      let bit (n : Nat) (c : Bool) : XWord := if c then 1#64 <<< n else 0
      bit 0 (isInf v && signOf v) ||| bit 1 (normal && signOf v) ||| bit 2 (isSubnormal v && signOf v) |||
      bit 3 (isZero v && signOf v) ||| bit 4 (isZero v && !signOf v) ||| bit 5 (isSubnormal v && !signOf v) |||
      bit 6 (normal && !signOf v) ||| bit 7 (isInf v && !signOf v) ||| bit 8 (isSNaN v) ||| bit 9 (isQNaN v)
    let once (m : XWord) : Prop := ∃! n, n < 64 ∧ m.getLsbD n = true
    (hasS s = true → 
     exec (.fclassS rd rs1) s = .next (xDone s rd (mask (s.readFp .s rs1)) 0) ∧
     once (mask (s.readFp .s rs1))) ∧
    (hasD s = true → pairsOk s [rs1] = true → 
     exec (.fclassD rd rs1) s = .next (xDone s rd (mask (s.readFp .d rs1)) 0) ∧
     once (mask (s.readFp .d rs1))) ∧
    (hasQ s = true → 
     exec (.fclassQ rd rs1) s = .next (xDone s rd (mask (s.readFp .q rs1)) 0) ∧
     once (mask (s.readFp .q rs1))) ∧
    (hasH s = true → 
     exec (.fclassH rd rs1) s = .next (xDone s rd (mask (s.readFp .h rs1)) 0) ∧
     once (mask (s.readFp .h rs1)))

/-- When enabled, with the format's extension, an even source pair where it must be and a mode that resolves, the L
and LU forms on RV64: x[rd] is the two's complement pattern of the integer in the N-bit format, sign-extended to XLEN
also for WU and LU. For a finite operand and the integer k the mode chooses: k with NX exactly when k differs from the
value, if k is in range; the lower bound with NV if k is below it, the upper bound with NV if k is above it. NaN gives
the upper bound with NV, an infinity the bound of its sign with NV. -/
def Obligations.FloatToIntegerCompletes : Prop :=
  (∀ (rd rs1 : Reg) (rm : BitVec 3) (s : State) (mode : Mode), s.fpEnabled = true → s.resolveMode rm = some mode →
    let intDone (y : IntFmt) (r : Int × FlagSet) : State := xDone s rd ((BitVec.ofInt y.width r.1).signExtend 64) r.2
    (hasS s = true → 
     exec (.fcvtWS rd rs1 rm) s = .next (intDone .w (fcvtInt .s .w mode (s.readFp .s rs1))) ∧
     exec (.fcvtWuS rd rs1 rm) s = .next (intDone .wu (fcvtInt .s .wu mode (s.readFp .s rs1))) ∧
     (s.cfg.xlen = .rv64 →
     exec (.fcvtLS rd rs1 rm) s = .next (intDone .l (fcvtInt .s .l mode (s.readFp .s rs1))) ∧
     exec (.fcvtLuS rd rs1 rm) s = .next (intDone .lu (fcvtInt .s .lu mode (s.readFp .s rs1))))) ∧
    (hasD s = true → pairsOk s [rs1] = true → 
     exec (.fcvtWD rd rs1 rm) s = .next (intDone .w (fcvtInt .d .w mode (s.readFp .d rs1))) ∧
     exec (.fcvtWuD rd rs1 rm) s = .next (intDone .wu (fcvtInt .d .wu mode (s.readFp .d rs1))) ∧
     (s.cfg.xlen = .rv64 →
     exec (.fcvtLD rd rs1 rm) s = .next (intDone .l (fcvtInt .d .l mode (s.readFp .d rs1))) ∧
     exec (.fcvtLuD rd rs1 rm) s = .next (intDone .lu (fcvtInt .d .lu mode (s.readFp .d rs1))))) ∧
    (hasQ s = true → 
     exec (.fcvtWQ rd rs1 rm) s = .next (intDone .w (fcvtInt .q .w mode (s.readFp .q rs1))) ∧
     exec (.fcvtWuQ rd rs1 rm) s = .next (intDone .wu (fcvtInt .q .wu mode (s.readFp .q rs1))) ∧
     (s.cfg.xlen = .rv64 →
     exec (.fcvtLQ rd rs1 rm) s = .next (intDone .l (fcvtInt .q .l mode (s.readFp .q rs1))) ∧
     exec (.fcvtLuQ rd rs1 rm) s = .next (intDone .lu (fcvtInt .q .lu mode (s.readFp .q rs1))))) ∧
    (hasH s = true → 
     exec (.fcvtWH rd rs1 rm) s = .next (intDone .w (fcvtInt .h .w mode (s.readFp .h rs1))) ∧
     exec (.fcvtWuH rd rs1 rm) s = .next (intDone .wu (fcvtInt .h .wu mode (s.readFp .h rs1))) ∧
     (s.cfg.xlen = .rv64 →
     exec (.fcvtLH rd rs1 rm) s = .next (intDone .l (fcvtInt .h .l mode (s.readFp .h rs1))) ∧
     exec (.fcvtLuH rd rs1 rm) s = .next (intDone .lu (fcvtInt .h .lu mode (s.readFp .h rs1)))))) ∧
  (∀ (fmt : Fmt) (y : IntFmt) (mode : Mode) (a : Bits fmt) (k : ℤ),
    let lo : ℤ := match y with | .w => -2147483648 | .wu => 0 | .l => -9223372036854775808 | .lu => 0
    let hi : ℤ := match y with
      | .w => 2147483647 | .wu => 4294967295 | .l => 9223372036854775807 | .lu => 18446744073709551615
    (isFinite a = true → Chosen mode (ratOf a) 1 k →
      (lo ≤ k → k ≤ hi → fcvtInt fmt y mode a = (k, if (k : ℚ) = ratOf a then 0b00000#5 else 0b00001#5)) ∧
      (k < lo → fcvtInt fmt y mode a = (lo, 0b10000#5)) ∧ (hi < k → fcvtInt fmt y mode a = (hi, 0b10000#5))) ∧
    (isNaN a = true → fcvtInt fmt y mode a = (hi, 0b10000#5)) ∧
    (isInf a = true → fcvtInt fmt y mode a = (if signOf a = true then lo else hi, 0b10000#5)))

/-- When enabled, with the format's extension, an even destination pair where it must be and a mode that resolves, the
L and LU forms on RV64, each converts its integer: W and WU the low 32 bits of x[rs1], signed and unsigned; L and LU
all 64 bits, signed and unsigned. -/
def Obligations.IntegerToFloatCompletes : Prop :=
  ∀ (rd rs1 : Reg) (rm : BitVec 3) (s : State) (mode : Mode), s.fpEnabled = true → s.resolveMode rm = some mode →
    let w : ℤ := ((s.readX rs1).extractLsb' 0 32).toInt
    let wu : ℤ := ((s.readX rs1).extractLsb' 0 32).toNat
    let l : ℤ := (s.readX rs1).toInt
    let lu : ℤ := (s.readX rs1).toNat
    (hasS s = true → 
     exec (.fcvtSW rd rs1 rm) s = .next (fpDone s .s rd (fcvtFp .s mode w)) ∧
     exec (.fcvtSWu rd rs1 rm) s = .next (fpDone s .s rd (fcvtFp .s mode wu)) ∧
     (s.cfg.xlen = .rv64 →
     exec (.fcvtSL rd rs1 rm) s = .next (fpDone s .s rd (fcvtFp .s mode l)) ∧
     exec (.fcvtSLu rd rs1 rm) s = .next (fpDone s .s rd (fcvtFp .s mode lu)))) ∧
    (hasD s = true → pairsOk s [rd] = true → 
     exec (.fcvtDW rd rs1 rm) s = .next (fpDone s .d rd (fcvtFp .d mode w)) ∧
     exec (.fcvtDWu rd rs1 rm) s = .next (fpDone s .d rd (fcvtFp .d mode wu)) ∧
     (s.cfg.xlen = .rv64 →
     exec (.fcvtDL rd rs1 rm) s = .next (fpDone s .d rd (fcvtFp .d mode l)) ∧
     exec (.fcvtDLu rd rs1 rm) s = .next (fpDone s .d rd (fcvtFp .d mode lu)))) ∧
    (hasQ s = true → 
     exec (.fcvtQW rd rs1 rm) s = .next (fpDone s .q rd (fcvtFp .q mode w)) ∧
     exec (.fcvtQWu rd rs1 rm) s = .next (fpDone s .q rd (fcvtFp .q mode wu)) ∧
     (s.cfg.xlen = .rv64 →
     exec (.fcvtQL rd rs1 rm) s = .next (fpDone s .q rd (fcvtFp .q mode l)) ∧
     exec (.fcvtQLu rd rs1 rm) s = .next (fpDone s .q rd (fcvtFp .q mode lu)))) ∧
    (hasH s = true → 
     exec (.fcvtHW rd rs1 rm) s = .next (fpDone s .h rd (fcvtFp .h mode w)) ∧
     exec (.fcvtHWu rd rs1 rm) s = .next (fpDone s .h rd (fcvtFp .h mode wu)) ∧
     (s.cfg.xlen = .rv64 →
     exec (.fcvtHL rd rs1 rm) s = .next (fpDone s .h rd (fcvtFp .h mode l)) ∧
     exec (.fcvtHLu rd rs1 rm) s = .next (fpDone s .h rd (fcvtFp .h mode lu))))

/-- When enabled, with the extensions of the row, the double side in an even pair where it must be, and a mode that
resolves. -/
def Obligations.FloatToFloatCompletes : Prop :=
  ∀ (rd rs1 : Reg) (rm : BitVec 3) (s : State) (mode : Mode), s.fpEnabled = true → s.resolveMode rm = some mode →
    (hasD s = true → pairsOk s [rs1] = true →
     exec (.fcvtSD rd rs1 rm) s = .next (fpDone s .s rd (fcvtFf .s .d mode (s.readFp .d rs1)))) ∧
    (hasD s = true → pairsOk s [rd] = true →
     exec (.fcvtDS rd rs1 rm) s = .next (fpDone s .d rd (fcvtFf .d .s mode (s.readFp .s rs1)))) ∧
    (hasQ s = true →
     exec (.fcvtSQ rd rs1 rm) s = .next (fpDone s .s rd (fcvtFf .s .q mode (s.readFp .q rs1)))) ∧
    (hasQ s = true →
     exec (.fcvtQS rd rs1 rm) s = .next (fpDone s .q rd (fcvtFf .q .s mode (s.readFp .s rs1)))) ∧
    (hasQ s = true →
     exec (.fcvtDQ rd rs1 rm) s = .next (fpDone s .d rd (fcvtFf .d .q mode (s.readFp .q rs1)))) ∧
    (hasQ s = true →
     exec (.fcvtQD rd rs1 rm) s = .next (fpDone s .q rd (fcvtFf .q .d mode (s.readFp .d rs1)))) ∧
    (hasHmin s = true →
     exec (.fcvtSH rd rs1 rm) s = .next (fpDone s .s rd (fcvtFf .s .h mode (s.readFp .h rs1)))) ∧
    (hasHmin s = true →
     exec (.fcvtHS rd rs1 rm) s = .next (fpDone s .h rd (fcvtFf .h .s mode (s.readFp .s rs1)))) ∧
    (hasHD s = true → pairsOk s [rd] = true →
     exec (.fcvtDH rd rs1 rm) s = .next (fpDone s .d rd (fcvtFf .d .h mode (s.readFp .h rs1)))) ∧
    (hasHD s = true → pairsOk s [rs1] = true →
     exec (.fcvtHD rd rs1 rm) s = .next (fpDone s .h rd (fcvtFf .h .d mode (s.readFp .d rs1)))) ∧
    (hasHQ s = true →
     exec (.fcvtQH rd rs1 rm) s = .next (fpDone s .q rd (fcvtFf .q .h mode (s.readFp .h rs1)))) ∧
    (hasHQ s = true →
     exec (.fcvtHQ rd rs1 rm) s = .next (fpDone s .h rd (fcvtFf .h .q mode (s.readFp .q rs1)))) ∧
    (s.cfg.ext.zfbfmin = true →
     exec (.fcvtBf16S rd rs1 rm) s = .next (fpDone s .bf16 rd (fcvtFf .bf16 .s mode (s.readFp .s rs1)))) ∧
    (s.cfg.ext.zfbfmin = true →
     exec (.fcvtSBf16 rd rs1 rm) s = .next (fpDone s .s rd (fcvtFf .s .bf16 mode (s.readFp .bf16 rs1))))

/-- When enabled, with Zfa and D, x[rd] is the sign extension of the truncated integer modulo 2^32 for a finite
operand, and 0 for an infinity or a NaN. With n the integer RTZ chooses: in the W range pattern and flags are those of
FCVT.W.D under RTZ, outside it the flags are NV alone. That the flags are taken under RTZ is the spec's own reading
(R165, D19; log 20). -/
def Obligations.ModularConvertCompletes : Prop :=
  (∀ (rd rs1 : Reg) (s : State), s.fpEnabled = true → s.cfg.ext.zfa = true → s.cfg.ext.d = true →
    let a := s.readFp .d rs1
    let fl := (fcvtInt .d .w .rtz a).2
    (isFinite a = true →
      exec (.fcvtmodWD rd rs1) s = .next (xDone s rd ((BitVec.ofInt 32 (roundToInt .rtz (valueOf a))).signExtend 64) fl)) ∧
    (isFinite a = false → exec (.fcvtmodWD rd rs1) s = .next (xDone s rd 0 fl) ∧ fl = 0b10000#5)) ∧
  (∀ (a : Bits .d) (n : ℤ),
    (isFinite a = true → Chosen .rtz (ratOf a) 1 n →
      (fcvtmod a).1 = BitVec.ofInt 32 n ∧
      (-2147483648 ≤ n → n ≤ 2147483647 →
        fcvtmod a = (BitVec.ofInt 32 (fcvtInt .d .w .rtz a).1, (fcvtInt .d .w .rtz a).2)) ∧
      ((n < -2147483648 ∨ 2147483647 < n) → (fcvtmod a).2 = 0b10000#5)) ∧
    (isFinite a = false → fcvtmod a = (0#32, 0b10000#5)))

/-- FMV.X.W, FMV.X.D, FMV.X.H write the raw low bits sign-extended; FMV.W.X, FMV.D.X, FMV.H.X the low bits of x[rs1]
boxed; FMVH.X.D and FMVH.X.Q bits 63:32 and 127:64; FMVP.D.X and FMVP.Q.X the pair x[rs2] over x[rs1] boxed; FLI the
constant of the table boxed; each with its extension and XLEN. -/
def Obligations.MovesComplete : Prop :=
  ∀ (rd rs1 rs2 : Reg) (k : BitVec 5) (s : State), s.fpEnabled = true →
    (s.cfg.ext.f = true →
      exec (.fmvXW rd rs1) s = .next (xDone s rd (((s.readF rs1).extractLsb' 0 32).signExtend 64) 0) ∧
      exec (.fmvWX rd rs1) s = .next (fDone s rd (box s.flen .s ((s.readX rs1).extractLsb' 0 32)))) ∧
    (s.cfg.ext.d = true → s.cfg.xlen = .rv64 →
      exec (.fmvXD rd rs1) s = .next (xDone s rd ((s.readF rs1).extractLsb' 0 64) 0) ∧
      exec (.fmvDX rd rs1) s = .next (fDone s rd (box s.flen .d (s.readX rs1)))) ∧
    (hasHTransfer s = true →
      exec (.fmvXH rd rs1) s = .next (xDone s rd (((s.readF rs1).extractLsb' 0 16).signExtend 64) 0) ∧
      exec (.fmvHX rd rs1) s = .next (fDone s rd (box s.flen .h ((s.readX rs1).extractLsb' 0 16)))) ∧
    (s.cfg.ext.zfa = true ∧ s.cfg.ext.d = true → s.cfg.xlen = .rv32 →
      exec (.fmvhXD rd rs1) s = .next (xDone s rd (((s.readF rs1).extractLsb' 32 32).signExtend 64) 0) ∧
      exec (.fmvpDX rd rs1 rs2) s =
        .next (fDone s rd (box s.flen .d ((s.readX rs2).extractLsb' 0 32 ++ (s.readX rs1).extractLsb' 0 32)))) ∧
    (s.cfg.ext.zfa = true ∧ s.cfg.ext.q = true → s.cfg.xlen = .rv64 →
      exec (.fmvhXQ rd rs1) s = .next (xDone s rd ((s.readF rs1).extractLsb' 64 64) 0) ∧
      exec (.fmvpQX rd rs1 rs2) s = .next (fDone s rd (box s.flen .q (s.readX rs2 ++ s.readX rs1)))) ∧
    (s.cfg.ext.zfa = true → exec (.fliS rd k) s = .next (fDone s rd (box s.flen .s (fli .s k)))) ∧
    (s.cfg.ext.zfa = true ∧ s.cfg.ext.d = true → exec (.fliD rd k) s = .next (fDone s rd (box s.flen .d (fli .d k)))) ∧
    (s.cfg.ext.zfa = true ∧ s.cfg.ext.q = true → exec (.fliQ rd k) s = .next (fDone s rd (box s.flen .q (fli .q k)))) ∧
    (s.cfg.ext.zfa = true ∧ (s.cfg.ext.zfh = true ∨ s.cfg.ext.zvfh = true) →
      exec (.fliH rd k) s = .next (fDone s rd (box s.flen .h (fli .h k))))

/-- With F or Zfinx and enabled, for each of the three CSRs: CSRRW and CSRRWI always write; CSRRS, CSRRC write unless
the rs1 field is 0, CSRRSI, CSRRCI unless the immediate is 0; the source is read before any write; the new field
values are given bit for bit, bits above the field being dropped. -/
def Obligations.CsrAccessesComplete : Prop :=
  ∀ (rd rs1 : Reg) (uimm : BitVec 5) (s : State), s.fpEnabled = true → hasS s = true →
    let full : BitVec 64 := (s.frm ++ s.fflags).setWidth 64
    let old (c : Csr) : BitVec 64 :=
      match c with
      | .fflags => s.fflags.setWidth 64
      | .frm => s.frm.setWidth 64
      | .fcsr => full
    let num (c : Csr) : BitVec 12 :=
      match c with
      | .fflags => 1#12
      | .frm => 2#12
      | .fcsr => 3#12
    let put (c : Csr) (v : BitVec 64) : State :=
      match c with
      | .fflags => { s with fflags := v.extractLsb' 0 5 }
      | .frm => { s with frm := v.extractLsb' 0 3 }
      | .fcsr => { s with frm := v.extractLsb' 5 3, fflags := v.extractLsb' 0 5 }
    let done (c : Csr) (t : State) : Outcome := .next (t.writeX rd (old c)).retire
    ∀ c : Csr,
      exec (.csrrw rd (num c) rs1) s = done c (put c (s.readX rs1)) ∧
      exec (.csrrs rd (num c) rs1) s = done c (if rs1 = 0 then s else put c (old c ||| s.readX rs1)) ∧
      exec (.csrrc rd (num c) rs1) s = done c (if rs1 = 0 then s else put c (old c &&& ~~~s.readX rs1)) ∧
      exec (.csrrwi rd (num c) uimm) s = done c (put c (uimm.setWidth 64)) ∧
      exec (.csrrsi rd (num c) uimm) s = done c (if uimm = 0 then s else put c (old c ||| uimm.setWidth 64)) ∧
      exec (.csrrci rd (num c) uimm) s = done c (if uimm = 0 then s else put c (old c &&& ~~~uimm.setWidth 64))

/-- For a CSR number other than 0x001, 0x002, 0x003 every one of the six instructions is refused in every state; for
those three numbers, with neither F nor Zfinx, every one raises IllegalInstruction. The refusal of other numbers is
the spec's own choice (R499, D17; log 16), and the illegal outcome is its general knowledge (R490, D15; log 14). -/
def Obligations.CsrAccessStops : Prop :=
  ∀ (rd : Reg) (csr : BitVec 12) (r : BitVec 5) (s : State),
    ∀ i ∈ ([.csrrw rd csr r, .csrrs rd csr r, .csrrc rd csr r, .csrrwi rd csr r, .csrrsi rd csr r,
      .csrrci rd csr r] : List Instr),
      (csr ≠ 0x001#12 → csr ≠ 0x002#12 → csr ≠ 0x003#12 → exec i s = .refused (.csrOutOfScope csr)) ∧
      (csr = 0x001#12 ∨ csr = 0x002#12 ∨ csr = 0x003#12 → hasS s = false → exec i s = illegalOutcome i s)

/-- After a write of v to fcsr, fcsr reads as the low eight bits of v, frm as bits 7:5 and fflags as bits 4:0; after a
write of v to frm, fcsr reads as the low three bits of v over the old fflags; after a write of v to fflags, fcsr reads
as the old frm over the low five bits of v. -/
def Obligations.FcsrViewsAgree : Prop :=
  ∀ (s : State) (v : XWord),
    s.readCsr .fcsr = (0#24 ++ s.frm ++ s.fflags : BitVec 32).setWidth 64 ∧
    (s.writeCsr .fcsr v).readCsr .fcsr = (v.extractLsb' 0 8).setWidth 64 ∧
    (s.writeCsr .fcsr v).readCsr .frm = (v.extractLsb' 5 3).setWidth 64 ∧
    (s.writeCsr .fcsr v).readCsr .fflags = (v.extractLsb' 0 5).setWidth 64 ∧
    (s.writeCsr .frm v).readCsr .frm = (v.extractLsb' 0 3).setWidth 64 ∧
    (s.writeCsr .frm v).readCsr .fcsr = (v.extractLsb' 0 3 ++ s.fflags).setWidth 64 ∧
    (s.writeCsr .fflags v).readCsr .fflags = (v.extractLsb' 0 5).setWidth 64 ∧
    (s.writeCsr .fflags v).readCsr .fcsr = (s.frm ++ v.extractLsb' 0 5).setWidth 64

/-- In every state x0 reads as zero and a write of any value to x0 is the identity. An instruction with destination x0
(an integer result, a CSR access, a floating-point result under Zfinx) that completes changes fflags, frm and pc only;
the same instruction with any rd that completes differs from it in the x registers only, so flags and CSR writes are
kept; an integer result or a CSR access completes with one rd exactly when it does with x0. FCVT.W.S, FCVT.LU.D,
FLT.S, FCVTMOD.W.D and CSRRW with rd = x0 are spelled out. That the other effects are kept is the spec's own inference
(R21; log 9). -/
def Obligations.ZeroRegisterKeepsOtherEffects : Prop :=
  (∀ (s : State) (v : XWord), s.readX 0 = 0 ∧ s.writeX 0 v = s) ∧
  (∀ (i : Instr) (s : State),
    (dest i = .x 0 ∨ (∃ csr, dest i = .csr 0 csr) ∨ ((∃ fmt, dest i = .fp fmt 0) ∧ s.inX = true) →
      (∀ t, exec i s = .next t → t = { s with fflags := t.fflags, frm := t.frm, pc := s.trunc (s.pc + 4) }) ∧
      (∀ (r : Reg) (u : State), exec (withRd r i) s = .next u → ∃ t, exec i s = .next t ∧ u = { t with x := u.x })) ∧
    (dest i = .x 0 ∨ (∃ csr, dest i = .csr 0 csr) → ∀ t, exec i s = .next t →
      ∀ r : Reg, ∃ v, exec (withRd r i) s = .next (t.writeX r v))) ∧
  (∀ (rs1 rs2 : Reg) (rm : BitVec 3) (mode : Mode) (s t : State), s.resolveMode rm = some mode →
    (exec (.fcvtWS 0 rs1 rm) s = .next t →
      t = { s with fflags := s.fflags ||| (fcvtInt .s .w mode (s.readFp .s rs1)).2, pc := s.trunc (s.pc + 4) }) ∧
    (exec (.fcvtLuD 0 rs1 rm) s = .next t →
      t = { s with fflags := s.fflags ||| (fcvtInt .d .lu mode (s.readFp .d rs1)).2, pc := s.trunc (s.pc + 4) }) ∧
    (exec (.fltS 0 rs1 rs2) s = .next t →
      t = { s with
        fflags := s.fflags ||| (fcmp .s .lt (s.readFp .s rs1) (s.readFp .s rs2)).2, pc := s.trunc (s.pc + 4) }) ∧
    (exec (.fcvtmodWD 0 rs1) s = .next t →
      t = { s with fflags := s.fflags ||| (fcvtmod (s.readFp .d rs1)).2, pc := s.trunc (s.pc + 4) }) ∧
    (exec (.csrrw 0 0x002#12 rs1) s = .next t →
      t = { s with frm := (s.readX rs1).extractLsb' 0 3, pc := s.trunc (s.pc + 4) }))

/-- For FLEN 32, 64 or 128 and every format of width n at most FLEN, BF16 included: box(v) has v in its low n bits,
ones from n to FLEN and zeros above FLEN in its container, so box(v) is v when n = FLEN, and a write of the result to
f[r] leaves box(v) there; unbox gives v back in its own format, and a quiet NaN with its sign set in any format wider
than n. The zeros above FLEN are the model's container (log 4). -/
def Obligations.NanBoxingOfResults : Prop :=
  ∀ (flen : Nat) (fmt : Fmt) (v : Bits fmt), flen ∈ [32, 64, 128] → fmt.width ≤ flen →
    (box flen fmt v).setWidth fmt.width = v ∧
    (∀ b, fmt.width ≤ b → b < flen → (box flen fmt v).getLsbD b = true) ∧
    (∀ b, flen ≤ b → (box flen fmt v).getLsbD b = false) ∧
    (fmt.width = flen → box flen fmt v = v.setWidth 128) ∧
    (∀ (s : State) (r : Reg), s.flen = flen → s.inX = false → (s.writeFp fmt r v).readF r = box flen fmt v) ∧
    unbox flen fmt (box flen fmt v) = v ∧
    (∀ wide : Fmt, fmt.width < wide.width → wide.width ≤ flen →
      isQNaN (unbox flen wide (box flen fmt v)) = true ∧ signOf (unbox flen wide (box flen fmt v)) = true)

/-- For FLEN 32, 64 or 128, a format of width n at most FLEN and any register contents: if some bit from n to FLEN is
0 then unbox is the canonical NaN, else it is the low n bits; the canonical NaN is a quiet NaN, so it alone raises no
NV in an addition. In every state with f registers the operand of a format is its register so unboxed with FLEN the
widest of Q, D and F. -/
def Obligations.BadlyBoxedReadsAsCanonicalNaN : Prop :=
  (∀ (flen : Nat) (fmt : Fmt) (r : FWord), flen ∈ [32, 64, 128] → fmt.width ≤ flen →
    ((∃ b, fmt.width ≤ b ∧ b < flen ∧ r.getLsbD b = false) → unbox flen fmt r = cnan fmt) ∧
    ((∀ b, fmt.width ≤ b → b < flen → r.getLsbD b = true) → unbox flen fmt r = r.setWidth fmt.width) ∧
    (∀ (mode : Mode) (v : Bits fmt), isSNaN v = false → fadd fmt mode (cnan fmt) v = (cnan fmt, 0#5))) ∧
  (∀ (s : State) (fmt : Fmt) (r : Reg),
    s.flen = (if s.cfg.ext.q = true then 128 else if s.cfg.ext.d = true then 64 else 32) ∧
    (s.cfg.ext.zfinx = false → s.readFp fmt r = unbox s.flen fmt (s.readF r)))

/-- With Zfinx, in every state, whatever wrote the registers: an operand of a format no wider than XLEN is the low
bits of its x register, the upper bits ignored, and on RV32 a double of an even register other than x0 is the low 32
bits of the next register over its own. For a format no wider than XLEN, a write to a register other than x0 makes the
x register read as the sign extension of the result cut to XLEN, and the format read gives the result back; on RV32 a
double written to an even register other than x0 stands with its low word there and its high word in the next, reads
back as itself, and written to x0 changes nothing; a double read of x0 is zero. -/
def Obligations.ZfinxOperandForms : Prop :=
  ∀ (s : State) (r : Reg), s.cfg.ext.zfinx = true →
    (∀ fmt : Fmt, fmt.width ≤ s.xlen → s.readFp fmt r = (s.readX r).setWidth fmt.width) ∧
    (s.cfg.xlen = .rv32 → r.toNat % 2 = 0 → r ≠ 0 →
      s.readFp .d r = (s.readX (r + 1)).extractLsb' 0 32 ++ (s.readX r).extractLsb' 0 32) ∧
    (∀ (fmt : Fmt) (v : Bits fmt), fmt.width ≤ s.xlen → r ≠ 0 →
      (s.writeFp fmt r v).readX r = s.trunc (v.signExtend 64) ∧ (s.writeFp fmt r v).readFp fmt r = v) ∧
    (∀ v : Bits .d, s.cfg.xlen = .rv32 → r.toNat % 2 = 0 → r ≠ 0 →
      (s.writeFp .d r v).readX r = (v.extractLsb' 0 32).setWidth 64 ∧
      (s.writeFp .d r v).readX (r + 1) = (v.extractLsb' 32 32).setWidth 64 ∧ (s.writeFp .d r v).readFp .d r = v) ∧
    (∀ v : Bits .d, s.cfg.xlen = .rv32 → s.writeFp .d 0 v = s ∧ s.readFp .d 0 = 0)

/-- For every format and pattern: a subnormal or zero has value (-1)^s * T * 2^(emin - m), a normal one (-1)^s * (1 +
T / 2^m) * 2^(E - bias); exactly one of zero, subnormal, normal, infinity, NaN holds. The largest finite magnitude is
(2 - 2^-m) * 2^emax, the least normal one 2^emin, the least subnormal one 2^(emin - m); every subnormal is below
2^emin, and the value is 0 exactly for the two zeros. -/
def Obligations.PatternValues : Prop :=
  ∀ (fmt : Fmt) (v : Bits fmt),
    let sgn : ℚ := if v.msb then -1 else 1
    (expOf v = 0 → ratOf v = sgn * fracOf v * (2 : ℚ) ^ (fmt.emin - fmt.fracBits)) ∧
    (0 < expOf v → isFinite v = true →
      ratOf v = sgn * (1 + fracOf v / 2 ^ fmt.fracBits) * (2 : ℚ) ^ ((expOf v : ℤ) - fmt.bias)) ∧
    (isFinite v = true → |ratOf v| ≤ (2 - (2 : ℚ) ^ (-(fmt.fracBits : ℤ))) * (2 : ℚ) ^ fmt.emax) ∧
    ratOf (maxFiniteOf fmt false) = (2 - (2 : ℚ) ^ (-(fmt.fracBits : ℤ))) * (2 : ℚ) ^ fmt.emax ∧
    (let normal := decide (0 < expOf v) && isFinite v
     [isZero v, isSubnormal v, normal, isInf v, isNaN v].count true = 1 ∧
     (normal = true → (2 : ℚ) ^ fmt.emin ≤ |ratOf v|)) ∧
    ratOf (fmt := fmt) (BitVec.ofNat fmt.width (2 ^ fmt.fracBits)) = (2 : ℚ) ^ fmt.emin ∧
    (isSubnormal v = true →
      (2 : ℚ) ^ (fmt.emin - fmt.fracBits) ≤ |ratOf v| ∧ |ratOf v| < (2 : ℚ) ^ fmt.emin) ∧
    ratOf (fmt := fmt) 1#fmt.width = (2 : ℚ) ^ (fmt.emin - fmt.fracBits) ∧
    (isFinite v = true → (ratOf v = 0 ↔ isZero v = true))

/-- The relation that says which candidate a mode chooses is functional and total: for a positive unit u and any
rational x there is exactly one integer k with k * u chosen; and when x is itself a multiple of u, that multiple is
chosen. -/
def Obligations.RoundingChoosesOneCandidate : Prop :=
  ∀ (mode : Mode) (x u : ℚ), 0 < u → (∃! k : ℤ, Chosen mode x u k) ∧ ∀ k : ℤ, x = k * u → Chosen mode x u k

/-- For a nonzero x = ±num/den*2^exp with 2^l <= |x| < 2^(l+1), unit 2^q, q = max(l, emin) - m, and k the candidate
the mode chooses: if |k| * 2^q >= 2^(emax+1) the flags are OF and NX and the result is the infinity or the largest
finite number by mode and sign; else the result is finite with the sign of x and value k * 2^q, NX is raised exactly
when that differs from x, UF exactly when it differs and the number rounded with p bits at unbounded exponent is below
2^emin, and no other flag. -/
def Obligations.RoundingIsCorrect : Prop :=
  
  ∀ (fmt : Fmt) (mode : Mode) (neg : Bool) (num den : Nat) (exp : ℤ), 0 < num → 0 < den →
    CorrectlyRounded fmt mode (ratioRat neg num den exp) (roundReal fmt mode neg (.ratio num den exp))

/-- For finite operands: the result and flags of FADD, FSUB, FMUL, FDIV by a nonzero number, the fused multiply-adds
with either negation, and the conversions between formats and from integers are those of rounding the exact rational
result once, as CorrectlyRounded says for a nonzero result: chosen candidate, overflow result, NX, OF, and UF by
tininess after rounding. -/
def Obligations.OperationsAreCorrectlyRounded : Prop :=
  ∀ (fmt dst : Fmt) (mode : Mode) (a b c : Bits fmt) (n : ℤ), isFinite a = true → isFinite b = true → isFinite c = true →
    CorrectlyRounded fmt mode (ratOf a + ratOf b) (fadd fmt mode a b) ∧
    CorrectlyRounded fmt mode (ratOf a - ratOf b) (fsub fmt mode a b) ∧
    CorrectlyRounded fmt mode (ratOf a * ratOf b) (fmul fmt mode a b) ∧
    (isZero b = false → CorrectlyRounded fmt mode (ratOf a / ratOf b) (fdiv fmt mode a b)) ∧
    CorrectlyRounded fmt mode (ratOf a * ratOf b + ratOf c) (ffma fmt false false mode a b c) ∧
    CorrectlyRounded fmt mode (ratOf a * ratOf b - ratOf c) (ffma fmt false true mode a b c) ∧
    CorrectlyRounded fmt mode (-(ratOf a * ratOf b) + ratOf c) (ffma fmt true false mode a b c) ∧
    CorrectlyRounded fmt mode (-(ratOf a * ratOf b) - ratOf c) (ffma fmt true true mode a b c) ∧
    CorrectlyRounded dst mode (ratOf a) (fcvtFf dst fmt mode a) ∧
    CorrectlyRounded fmt mode n (fcvtFp fmt mode n)

/-- For a finite positive operand of value x and a result r with the flags fl: r is finite and not negative, fl is
none or NX, NX is raised exactly when r * r differs from x. With u the spacing 2^(e - m) of p-bit numbers at the
root's magnitude (4^e <= x < 4^(e+1)), r is a candidate, a multiple of u from 2^e up; if the root is itself a multiple
of u, r is that multiple; and under RTZ and RDN r*r <= x < (r+u)^2, under RUP (r-u)^2 < x <= r*r, under RNE and RMM
(r-u/2)^2 <= x <= (r+u/2)^2. -/
def Obligations.SquareRootIsCorrect : Prop :=
  ∀ (fmt : Fmt) (mode : Mode) (a : Bits fmt) (e : ℤ), isFinite a = true → signOf a = false → isZero a = false →
    (4 : ℚ) ^ e ≤ ratOf a → ratOf a < (4 : ℚ) ^ (e + 1) →
    let r := fsqrt fmt mode a
    let v := ratOf r.1
    let u : ℚ := (2 : ℚ) ^ (e - fmt.fracBits)
    isFinite r.1 = true ∧ signOf r.1 = false ∧ (∃ n : ℤ, v = n * u) ∧ (2 : ℚ) ^ e ≤ v ∧
    (∀ k : ℤ, 0 ≤ k → (k * u) * (k * u) = ratOf a → v = k * u) ∧
    r.2 = (if v * v = ratOf a then 0b00000#5 else 0b00001#5) ∧
    (mode = .rtz ∨ mode = .rdn → v * v ≤ ratOf a ∧ ratOf a < (v + u) * (v + u)) ∧
    (mode = .rup → (v - u) * (v - u) < ratOf a ∧ ratOf a ≤ v * v) ∧
    (mode = .rne ∨ mode = .rmm → (v - u / 2) * (v - u / 2) ≤ ratOf a ∧ ratOf a ≤ (v + u / 2) * (v + u / 2))

/-- If the result of addition, subtraction, multiplication, division, square root, a fused multiply-add, minimum,
maximum, FMINM, FMAXM, FROUND, or a conversion from an integer or another format is a NaN, it is the canonical NaN of
the result format. Only the canonical-NaN mode is modelled (D18; log 19). -/
def Obligations.NaNResultsAreCanonical : Prop :=
  ∀ (fmt src : Fmt) (mode : Mode) (a b c : Bits fmt) (d : Bits src) (n : Int) (p q : Bool),
    ∀ r ∈ [fadd fmt mode a b, fsub fmt mode a b, fmul fmt mode a b, fdiv fmt mode a b, fsqrt fmt mode a,
      ffma fmt p q mode a b c, fminmax fmt p a b, fminmaxm fmt p a b, fround fmt p mode a, fcvtFp fmt mode n,
      fcvtFf fmt src mode d],
      isNaN r.1 = true → r.1 = cnan fmt

/-- For FADD, FSUB, FMUL, FDIV, FSQRT and the conversion between formats: with a NaN operand the canonical NaN, and NV
exactly when an operand is signaling. For the fused operations also NV when the multiplicands are an infinity and a
zero, whatever the addend. NV alone with the canonical NaN: infinities that cancel in a sum, a difference or a fused
sum (sp, sc the effective signs of product and addend), zero times infinity, zero over zero, infinity over infinity,
the root of a negative nonzero number or minus infinity. A finite nonzero number over zero gives the infinity whose
sign is the XOR of the signs and raises DZ alone. No flag and no NaN in every other case with an infinity: the
infinite operand of a sum or a difference, the infinity of the product's sign, an infinity over a finite number, zero
of that sign for a finite number over an infinity, plus infinity for its root, the infinite product or else the
infinite addend of a fused operation, the infinity of the same sign in another format. -/
def Obligations.NaNsInvalidOperationsAndInfinities : Prop :=
  
  ∀ (fmt dst : Fmt) (mode : Mode) (p q : Bool) (a b c : Bits fmt),
    let xs : Bool := signOf a != signOf b
    let sp : Bool := xs != p
    let sc : Bool := signOf c != q
    (isNaN a = true ∨ isNaN b = true →
      ∀ r ∈ [fadd fmt mode a b, fsub fmt mode a b, fmul fmt mode a b, fdiv fmt mode a b],
        r = (cnan fmt, if isSNaN a = true ∨ isSNaN b = true then 0b10000#5 else 0#5)) ∧
    (isNaN a = true → fsqrt fmt mode a = (cnan fmt, if isSNaN a = true then 0b10000#5 else 0#5) ∧
      fcvtFf dst fmt mode a = (cnan dst, if isSNaN a = true then 0b10000#5 else 0#5)) ∧
    (isNaN a = true ∨ isNaN b = true ∨ isNaN c = true →
      ffma fmt p q mode a b c = (cnan fmt,
        if isSNaN a = true ∨ isSNaN b = true ∨ isSNaN c = true ∨ (isInf a = true ∧ isZero b = true) ∨
          (isZero a = true ∧ isInf b = true) then 0b10000#5 else 0#5)) ∧
    (isInf a = true → isInf b = true →
      fadd fmt mode a b = (if signOf a = signOf b then (a, 0#5) else (cnan fmt, 0b10000#5)) ∧
      fsub fmt mode a b = (if signOf a = signOf b then (cnan fmt, 0b10000#5) else (a, 0#5))) ∧
    (isInf a = true → isFinite b = true →
      fadd fmt mode a b = (a, 0#5) ∧ fadd fmt mode b a = (a, 0#5) ∧ fsub fmt mode a b = (a, 0#5) ∧
      fsub fmt mode b a = (infOf fmt (!signOf a), 0#5) ∧
      fdiv fmt mode a b = (infOf fmt xs, 0#5) ∧ fdiv fmt mode b a = (zeroOf fmt xs, 0#5)) ∧
    ((isInf a = true ∧ isZero b = true) ∨ (isZero a = true ∧ isInf b = true) →
      fmul fmt mode a b = (cnan fmt, 0b10000#5) ∧ ffma fmt p q mode a b c = (cnan fmt, 0b10000#5)) ∧
    (isNaN a = false → isNaN b = false → isZero a = false → isZero b = false → isInf a = true ∨ isInf b = true →
      fmul fmt mode a b = (infOf fmt xs, 0#5) ∧
      (isNaN c = false →
        ffma fmt p q mode a b c =
          (if isInf c = true ∧ sp ≠ sc then (cnan fmt, 0b10000#5) else (infOf fmt sp, 0#5)))) ∧
    (isFinite a = true → isFinite b = true → isInf c = true → ffma fmt p q mode a b c = (infOf fmt sc, 0#5)) ∧
    ((isZero a = true ∧ isZero b = true) ∨ (isInf a = true ∧ isInf b = true) →
      fdiv fmt mode a b = (cnan fmt, 0b10000#5)) ∧
    (isFinite a = true → isZero a = false → isZero b = true → fdiv fmt mode a b = (infOf fmt xs, 0b01000#5)) ∧
    (isNaN a = false → isZero a = false → signOf a = true → fsqrt fmt mode a = (cnan fmt, 0b10000#5)) ∧
    (isInf a = true → (signOf a = false → fsqrt fmt mode a = (a, 0#5)) ∧
      fcvtFf dst fmt mode a = (infOf dst (signOf a), 0#5))

/-- No flag is raised. For finite operands whose sum or difference is zero: +0, or -0 under RDN, when the added
numbers have unlike signs, and the common sign when they are zeros of one sign. For a fused operation whose exact
result is zero: the common sign of product and addend when both are zeros of one sign, else +0, or -0 under RDN. A
product with a zero factor and a zero over a nonzero number are zeros with the XOR of the signs; the root of a zero is
that zero; a conversion keeps the sign of a zero, and the integer 0 gives +0. Sums and products are commutative, and a
fused operation is in its two factors. -/
def Obligations.ExactZeroResults : Prop :=
  
  ∀ (fmt dst : Fmt) (mode : Mode) (p q : Bool) (a b c : Bits fmt),
    let cancelled : Result fmt := (zeroOf fmt (decide (mode = .rdn)), 0#5)
    let xs : Bool := signOf a != signOf b
    let sp : Bool := xs != p
    let sc : Bool := signOf c != q
    (isFinite a = true → isFinite b = true →
      (ratOf a + ratOf b = 0 →
        fadd fmt mode a b = (if signOf a = signOf b then (zeroOf fmt (signOf a), 0#5) else cancelled)) ∧
      (ratOf a - ratOf b = 0 →
        fsub fmt mode a b = (if signOf a = signOf b then cancelled else (zeroOf fmt (signOf a), 0#5))) ∧
      (isFinite c = true →
        (if p = true then -1 else 1) * (ratOf a * ratOf b) + (if q = true then -1 else 1) * ratOf c = 0 →
        ffma fmt p q mode a b c =
          (if (isZero a = true ∨ isZero b = true) ∧ sp = sc then (zeroOf fmt sp, 0#5) else cancelled)) ∧
      (isZero a = true ∨ isZero b = true → fmul fmt mode a b = (zeroOf fmt xs, 0#5)) ∧
      (isZero a = true → isZero b = false → fdiv fmt mode a b = (zeroOf fmt xs, 0#5))) ∧
    (isZero a = true → fsqrt fmt mode a = (a, 0#5) ∧ fcvtFf dst fmt mode a = (zeroOf dst (signOf a), 0#5)) ∧
    fcvtFp fmt mode 0 = (zeroOf fmt false, 0#5) ∧
    fadd fmt mode a b = fadd fmt mode b a ∧ fmul fmt mode a b = fmul fmt mode b a ∧
    ffma fmt p q mode a b c = ffma fmt p q mode b a c

/-- For S to D, S to Q, D to Q, H to S, H to D, H to Q and BF16 to S, every mode and every finite operand a: the
result is finite, has the same value and sign, and no flag is raised; converting it back gives a with no flag. Every W
or WU integer into D or Q and every L or LU integer into Q: finite with the value of the integer, no flag, and back to
the integer with no flag. A BF16 number or infinity converts to the single v followed by sixteen zeros. -/
def Obligations.ExactConversions : Prop :=
  (∀ p ∈ [(Fmt.s, Fmt.d), (Fmt.s, Fmt.q), (Fmt.d, Fmt.q), (Fmt.h, Fmt.s), (Fmt.h, Fmt.d), (Fmt.h, Fmt.q),
      (Fmt.bf16, Fmt.s)],
    ∀ (mode mode' : Mode) (a : Bits p.1), isFinite a = true →
      let r := fcvtFf p.2 p.1 mode a
      isFinite r.1 = true ∧ ratOf r.1 = ratOf a ∧ signOf r.1 = signOf a ∧ r.2 = 0#5 ∧
        fcvtFf p.1 p.2 mode' r.1 = (a, 0#5)) ∧
  (∀ (y : IntFmt) (fmt : Fmt) (mode mode' : Mode) (v : BitVec y.width),
    (fmt = .q ∨ (fmt = .d ∧ y.width = 32)) →
    let n := y.read v
    let r := fcvtFp fmt mode n
    isFinite r.1 = true ∧ ratOf r.1 = n ∧ r.2 = 0#5 ∧ fcvtInt fmt y mode' r.1 = (n, 0#5)) ∧
  (∀ (v : Bits .bf16) (mode : Mode),
    (isFinite v = true → ratOf v = ratOf (fmt := .s) (v ++ 0#16)) ∧
    (isNaN v = false → fcvtFf .s .bf16 mode v = (v ++ 0#16, 0#5)))

/-- For a finite operand and the integer k the mode chooses: the result is finite with value k and the sign of the
operand; FROUND raises nothing, FROUNDNX NX exactly when k differs from the value. Zeros and infinities are returned
unmodified with no flag; a NaN gives the canonical NaN, NV only when signaling. -/
def Obligations.RoundToIntegralIsCorrect : Prop :=
  ∀ (fmt : Fmt) (mode : Mode) (exact : Bool) (a : Bits fmt) (k : ℤ),
    (isFinite a = true → Chosen mode (ratOf a) 1 k →
      let r := fround fmt exact mode a
      isFinite r.1 = true ∧ ratOf r.1 = k ∧ signOf r.1 = signOf a ∧
        r.2 = (if exact = true ∧ (k : ℚ) ≠ ratOf a then 0b00001#5 else 0b00000#5)) ∧
    (isInf a = true ∨ isZero a = true → fround fmt exact mode a = (a, 0#5)) ∧
    (isNaN a = true → fround fmt exact mode a = (cnan fmt, if isSNaN a = true then 0b10000#5 else 0#5))

/-- In S, D, Q and H: the 28 entries with one value in all four formats, each with the value of its row, as a finite
number; entry 1 is the least positive normal of the format; entry 29 is 2^16 in S, D, Q and plus infinity in H; entry
30 is plus infinity and entry 31 the canonical NaN. -/
def Obligations.FliConstantsHaveTheirValues : Prop :=
  
  ∀ fmt ∈ [Fmt.s, .d, .q, .h],
    (∀ p ∈ ([
        (0, -1), (2, 1 / 65536), (3, 1 / 32768), (4, 1 / 256), (5, 1 / 128), (6, 1 / 16), (7, 1 / 8), (8, 1 / 4),
        (9, 5 / 16), (10, 3 / 8), (11, 7 / 16), (12, 1 / 2), (13, 5 / 8), (14, 3 / 4), (15, 7 / 8), (16, 1),
        (17, 5 / 4), (18, 3 / 2), (19, 7 / 4), (20, 2), (21, 5 / 2), (22, 3), (23, 4), (24, 8), (25, 16),
        (26, 128), (27, 256), (28, 32768)] : List (BitVec 5 × ℚ)),
      isFinite (fli fmt p.1) = true ∧ ratOf (fli fmt p.1) = p.2) ∧
    (isFinite (fli fmt 1) = true ∧ ratOf (fli fmt 1) = (2 : ℚ) ^ fmt.emin) ∧
    (fmt ≠ .h → isFinite (fli fmt 29) = true ∧ ratOf (fli fmt 29) = 65536) ∧ fli .h 29 = infOf .h false ∧
    fli fmt 30 = infOf fmt false ∧ fli fmt 31 = cnan fmt
end

