-- ==== Sys2Proof/Laws/State.lean ====
section
/-!
SUPPORT. What each update of the state leaves in each field: one lemma per field per update.
-/

namespace Sys2Proof.Machine

@[simp] theorem State.accrue_cfg (s : State) (fl : FlagSet) : (s.accrue fl).cfg = s.cfg := rfl
@[simp] theorem State.accrue_x (s : State) (fl : FlagSet) : (s.accrue fl).x = s.x := rfl
@[simp] theorem State.accrue_f (s : State) (fl : FlagSet) : (s.accrue fl).f = s.f := rfl
@[simp] theorem State.accrue_pc (s : State) (fl : FlagSet) : (s.accrue fl).pc = s.pc := rfl
@[simp] theorem State.accrue_frm (s : State) (fl : FlagSet) : (s.accrue fl).frm = s.frm := rfl
@[simp] theorem State.accrue_fflags (s : State) (fl : FlagSet) : (s.accrue fl).fflags = s.fflags ||| fl := rfl
@[simp] theorem State.accrue_mem (s : State) (fl : FlagSet) : (s.accrue fl).mem = s.mem := rfl

@[simp] theorem State.retire_cfg (s : State)  : (s.retire).cfg = s.cfg := rfl
@[simp] theorem State.retire_x (s : State)  : (s.retire).x = s.x := rfl
@[simp] theorem State.retire_f (s : State)  : (s.retire).f = s.f := rfl
@[simp] theorem State.retire_pc (s : State)  : (s.retire).pc = s.trunc (s.pc + 4) := rfl
@[simp] theorem State.retire_frm (s : State)  : (s.retire).frm = s.frm := rfl
@[simp] theorem State.retire_fflags (s : State)  : (s.retire).fflags = s.fflags := rfl
@[simp] theorem State.retire_mem (s : State)  : (s.retire).mem = s.mem := rfl

@[simp] theorem State.writeF_cfg (s : State) (r : Reg) (v : FWord) : (s.writeF r v).cfg = s.cfg := rfl
@[simp] theorem State.writeF_x (s : State) (r : Reg) (v : FWord) : (s.writeF r v).x = s.x := rfl
@[simp] theorem State.writeF_f (s : State) (r : Reg) (v : FWord) : (s.writeF r v).f = s.f.set r.toNat (s.truncF v) := rfl
@[simp] theorem State.writeF_pc (s : State) (r : Reg) (v : FWord) : (s.writeF r v).pc = s.pc := rfl
@[simp] theorem State.writeF_frm (s : State) (r : Reg) (v : FWord) : (s.writeF r v).frm = s.frm := rfl
@[simp] theorem State.writeF_fflags (s : State) (r : Reg) (v : FWord) : (s.writeF r v).fflags = s.fflags := rfl
@[simp] theorem State.writeF_mem (s : State) (r : Reg) (v : FWord) : (s.writeF r v).mem = s.mem := rfl

@[simp] theorem State.storeBytes_cfg (s : State) (ea : XWord) (n : Nat) (v : FWord) : (s.storeBytes ea n v).cfg = s.cfg := rfl
@[simp] theorem State.storeBytes_x (s : State) (ea : XWord) (n : Nat) (v : FWord) : (s.storeBytes ea n v).x = s.x := rfl
@[simp] theorem State.storeBytes_f (s : State) (ea : XWord) (n : Nat) (v : FWord) : (s.storeBytes ea n v).f = s.f := rfl
@[simp] theorem State.storeBytes_pc (s : State) (ea : XWord) (n : Nat) (v : FWord) : (s.storeBytes ea n v).pc = s.pc := rfl
@[simp] theorem State.storeBytes_frm (s : State) (ea : XWord) (n : Nat) (v : FWord) : (s.storeBytes ea n v).frm = s.frm := rfl
@[simp] theorem State.storeBytes_fflags (s : State) (ea : XWord) (n : Nat) (v : FWord) : (s.storeBytes ea n v).fflags = s.fflags := rfl
@[simp] theorem State.storeBytes_mem (s : State) (ea : XWord) (n : Nat) (v : FWord) : (s.storeBytes ea n v).mem = s.storedBytes ea v n := rfl

@[simp] theorem State.writeX_cfg (s : State) (r : Reg) (v : XWord) : (s.writeX r v).cfg = s.cfg := by
  unfold State.writeX; split <;> rfl
@[simp] theorem State.writeX_zero (s : State) (v : XWord) : s.writeX 0 v = s := rfl
theorem State.writeX_x (s : State) {r : Reg} (v : XWord) (h : r ≠ 0) :
    (s.writeX r v).x = s.x.set r.toNat (s.trunc v) := by
  unfold State.writeX; rw [if_neg h]
@[simp] theorem State.writeX_f (s : State) (r : Reg) (v : XWord) : (s.writeX r v).f = s.f := by
  unfold State.writeX; split <;> rfl
@[simp] theorem State.writeX_pc (s : State) (r : Reg) (v : XWord) : (s.writeX r v).pc = s.pc := by
  unfold State.writeX; split <;> rfl
@[simp] theorem State.writeX_frm (s : State) (r : Reg) (v : XWord) : (s.writeX r v).frm = s.frm := by
  unfold State.writeX; split <;> rfl
@[simp] theorem State.writeX_fflags (s : State) (r : Reg) (v : XWord) : (s.writeX r v).fflags = s.fflags := by
  unfold State.writeX; split <;> rfl
@[simp] theorem State.writeX_mem (s : State) (r : Reg) (v : XWord) : (s.writeX r v).mem = s.mem := by
  unfold State.writeX; split <;> rfl

@[simp] theorem State.writePair_cfg (s : State) (r : Reg) (v : BitVec 64) : (s.writePair r v).cfg = s.cfg := by
  unfold State.writePair; split <;> simp
@[simp] theorem State.writePair_f (s : State) (r : Reg) (v : BitVec 64) : (s.writePair r v).f = s.f := by
  unfold State.writePair; split <;> simp
@[simp] theorem State.writePair_pc (s : State) (r : Reg) (v : BitVec 64) : (s.writePair r v).pc = s.pc := by
  unfold State.writePair; split <;> simp
@[simp] theorem State.writePair_frm (s : State) (r : Reg) (v : BitVec 64) : (s.writePair r v).frm = s.frm := by
  unfold State.writePair; split <;> simp
@[simp] theorem State.writePair_fflags (s : State) (r : Reg) (v : BitVec 64) : (s.writePair r v).fflags = s.fflags := by
  unfold State.writePair; split <;> simp
@[simp] theorem State.writePair_mem (s : State) (r : Reg) (v : BitVec 64) : (s.writePair r v).mem = s.mem := by
  unfold State.writePair; split <;> simp
@[simp] theorem State.writePair_zero (s : State) (v : BitVec 64) : s.writePair 0 v = s := rfl

@[simp] theorem State.writeFp_cfg (s : State) (fmt : Fmt) (r : Reg) (v : Bits fmt) :
    (s.writeFp fmt r v).cfg = s.cfg := by
  unfold State.writeFp; split <;> [split; skip] <;> simp
@[simp] theorem State.writeFp_pc (s : State) (fmt : Fmt) (r : Reg) (v : Bits fmt) :
    (s.writeFp fmt r v).pc = s.pc := by
  unfold State.writeFp; split <;> [split; skip] <;> simp
@[simp] theorem State.writeFp_frm (s : State) (fmt : Fmt) (r : Reg) (v : Bits fmt) :
    (s.writeFp fmt r v).frm = s.frm := by
  unfold State.writeFp; split <;> [split; skip] <;> simp
@[simp] theorem State.writeFp_fflags (s : State) (fmt : Fmt) (r : Reg) (v : Bits fmt) :
    (s.writeFp fmt r v).fflags = s.fflags := by
  unfold State.writeFp; split <;> [split; skip] <;> simp
@[simp] theorem State.writeFp_mem (s : State) (fmt : Fmt) (r : Reg) (v : Bits fmt) :
    (s.writeFp fmt r v).mem = s.mem := by
  unfold State.writeFp; split <;> [split; skip] <;> simp

/-- With f registers a result leaves the x registers alone. -/
theorem State.writeFp_x_of_not_inX (s : State) (fmt : Fmt) (r : Reg) (v : Bits fmt) (h : s.inX = false) :
    (s.writeFp fmt r v).x = s.x := by simp [State.writeFp, h]

/-- With x registers a result leaves the f registers alone (10_state.md R26). -/
theorem State.writeFp_f_of_inX (s : State) (fmt : Fmt) (r : Reg) (v : Bits fmt) (h : s.inX = true) :
    (s.writeFp fmt r v).f = s.f := by simp only [State.writeFp, h, if_true]; split <;> simp

@[simp] theorem State.writeCsr_cfg (s : State) (c : Csr) (v : XWord) : (s.writeCsr c v).cfg = s.cfg := by
  cases c <;> rfl
@[simp] theorem State.writeCsr_x (s : State) (c : Csr) (v : XWord) : (s.writeCsr c v).x = s.x := by
  cases c <;> rfl
@[simp] theorem State.writeCsr_f (s : State) (c : Csr) (v : XWord) : (s.writeCsr c v).f = s.f := by
  cases c <;> rfl
@[simp] theorem State.writeCsr_pc (s : State) (c : Csr) (v : XWord) : (s.writeCsr c v).pc = s.pc := by
  cases c <;> rfl
@[simp] theorem State.writeCsr_mem (s : State) (c : Csr) (v : XWord) : (s.writeCsr c v).mem = s.mem := by
  cases c <;> rfl
@[simp] theorem State.writeInt_cfg (s : State) (t : IntFmt) (r : Reg) (n : Int) : (s.writeInt t r n).cfg = s.cfg := by
  simp [State.writeInt]
@[simp] theorem State.writeInt_f (s : State) (t : IntFmt) (r : Reg) (n : Int) : (s.writeInt t r n).f = s.f := by
  simp [State.writeInt]
@[simp] theorem State.writeInt_pc (s : State) (t : IntFmt) (r : Reg) (n : Int) : (s.writeInt t r n).pc = s.pc := by
  simp [State.writeInt]
@[simp] theorem State.writeInt_frm (s : State) (t : IntFmt) (r : Reg) (n : Int) : (s.writeInt t r n).frm = s.frm := by
  simp [State.writeInt]
@[simp] theorem State.writeInt_fflags (s : State) (t : IntFmt) (r : Reg) (n : Int) : (s.writeInt t r n).fflags = s.fflags := by
  simp [State.writeInt]
@[simp] theorem State.writeInt_mem (s : State) (t : IntFmt) (r : Reg) (n : Int) : (s.writeInt t r n).mem = s.mem := by
  simp [State.writeInt]

/-! ## What the configuration gives stays the same when the configuration does -/

theorem State.xlen_congr {s t : State} (h : t.cfg = s.cfg) : t.xlen = s.xlen := by simp [State.xlen, h]

theorem State.flen_congr {s t : State} (h : t.cfg = s.cfg) : t.flen = s.flen := by simp [State.flen, h]

theorem State.inX_congr {s t : State} (h : t.cfg = s.cfg) : t.inX = s.inX := by simp [State.inX, h]

theorem State.trunc_congr {s t : State} (h : t.cfg = s.cfg) (v : XWord) : t.trunc v = s.trunc v := by
  cases s; cases t; cases h; rfl

theorem State.truncF_congr {s t : State} (h : t.cfg = s.cfg) (v : FWord) : t.truncF v = s.truncF v := by
  cases s; cases t; cases h; rfl

end Sys2Proof.Machine
end

