-- ==== Sys2Proof/Laws/Memory.lean ====
section
/-!
SUPPORT. The laws of memory: what a read gives after a write, and that every memory operation keeps the canonical
form.
-/

namespace Sys2Proof.Machine

/-- A read after a write: the byte written at its own address, the old byte at any other. -/
theorem memRead_memWrite (m : List Host.Cell) (a b : Nat) (v : Byte) (h : memWfFrom 0 m = true) :
    memRead (memWrite m a v) b = if b = a then v else memRead m b := by
  suffices H : ∀ lo, memWfFrom lo m = true →
      memRead (memWrite m a v) b = if b = a then v else memRead m b from H 0 h
  clear h
  have below : ∀ (m : List Host.Cell) (lo c : Nat), memWfFrom lo m = true → c < lo → memRead m c = unlistedByte := by
    intro m
    induction m with
    | nil => intros; rfl
    | cons c m ih =>
      intro lo d hm hd
      simp only [memWfFrom, Bool.and_eq_true, decide_eq_true_eq] at hm
      simp only [memRead]
      rw [if_neg (by omega)]
      exact ih _ _ hm.2 (by omega)
  induction m with
  | nil =>
    intro lo _
    by_cases hv : v = unlistedByte <;> by_cases hb : b = a <;> simp [memWrite, memRead, hv, hb, eq_comm]
    all_goals (intro hh; exact absurd hh.symm hb)
  | cons c m ih =>
    intro lo hm
    obtain ⟨d, u⟩ := c
    simp only [memWfFrom, Bool.and_eq_true, decide_eq_true_eq] at hm
    have ihm := ih _ hm.2
    simp only [memWrite]
    split
    · rename_i had
      split
      · rename_i hv
        by_cases hb : b = a
        · subst hb hv
          simp only [memRead, if_true]
          rw [if_neg (by omega), below m _ _ hm.2 (by omega)]
        · simp [hb]
      · by_cases hb : b = a
        · simp [memRead, hb]
        · simp [memRead, hb, Ne.symm hb]
    · split
      · rename_i hnd hd
        subst hd
        split
        · rename_i hv
          by_cases hb : b = a
          · subst hb hv
            rw [below m _ _ hm.2 (by omega)]; simp
          · simp [memRead, hb, Ne.symm hb]
        · by_cases hb : b = a
          · simp [memRead, hb]
          · simp [memRead, hb, Ne.symm hb]
      · rename_i hnd hd
        by_cases hbd : d = b
        · subst hbd
          simp [memRead, Ne.symm hd]
        · simp only [memRead, if_neg hbd]
          exact ihm

/-- A write keeps the canonical form above any bound below its address. -/
theorem memWfFrom_memWrite (m : List Host.Cell) (a : Nat) (v : Byte) (lo : Nat) (h : memWfFrom lo m = true)
    (ha : lo ≤ a) : memWfFrom lo (memWrite m a v) = true := by
  induction m generalizing lo with
  | nil =>
    simp only [memWrite]
    split
    · rfl
    · rename_i hv
      simp [memWfFrom, ha, hv]
  | cons c m ih =>
    obtain ⟨d, u⟩ := c
    have hm := h
    simp only [memWfFrom, Bool.and_eq_true, decide_eq_true_eq] at hm
    have mono : ∀ {m : List Host.Cell} {i j : Nat}, i ≤ j → memWfFrom j m = true → memWfFrom i m = true := by
      intro m i j hij hj
      cases m with
      | nil => rfl
      | cons c m =>
        simp only [memWfFrom, Bool.and_eq_true, decide_eq_true_eq] at hj ⊢
        exact ⟨⟨by omega, hj.1.2⟩, hj.2⟩
    simp only [memWrite]
    split
    · rename_i had
      split
      · exact h
      · rename_i hv
        simp only [memWfFrom, Bool.and_eq_true, decide_eq_true_eq]
        exact ⟨⟨ha, by simpa using hv⟩, ⟨by omega, hm.1.2⟩, hm.2⟩
    · split
      · rename_i hnd hd
        subst hd
        split
        · exact mono (by omega) hm.2
        · rename_i hv
          simp only [memWfFrom, Bool.and_eq_true, decide_eq_true_eq]
          exact ⟨⟨ha, by simpa using hv⟩, hm.2⟩
      · rename_i hnd hd
        simp only [memWfFrom, Bool.and_eq_true, decide_eq_true_eq]
        exact ⟨hm.1, ih _ hm.2 (by omega)⟩

/-- A write keeps the canonical form. -/
theorem memWf_memWrite (m : List Host.Cell) (a : Nat) (v : Byte) (h : Memory.wf m = true) :
    Memory.wf (memWrite m a v) = true := memWfFrom_memWrite m a v 0 h (Nat.zero_le _)

/-- A store keeps the canonical form. -/
theorem memWf_storedBytes (s : State) (ea : XWord) (v : FWord) (n : Nat) (h : Memory.wf s.mem = true) :
    Memory.wf (s.storedBytes ea v n) = true := by
  induction n with
  | zero => exact h
  | succ n ih => exact memWf_memWrite _ _ _ ih

/-- The placing of an instruction keeps the canonical form. -/
theorem memWf_placeBytes (m : List Host.Cell) (a : Nat) (w : Word) (h : Memory.wf m = true) :
    Memory.wf (placeBytes m a w) = true :=
  memWf_memWrite _ _ _ (memWf_memWrite _ _ _ (memWf_memWrite _ _ _ (memWf_memWrite _ _ _ h)))

/-- A store leaves every byte alone whose address is none of the addresses stored to. -/
theorem memRead_storedBytes_of_ne (s : State) (ea : XWord) (v : FWord) (n a : Nat) (h : Memory.wf s.mem = true)
    (hne : ∀ k, k < n → s.byteAddr ea k ≠ a) : memRead (s.storedBytes ea v n) a = memRead s.mem a := by
  induction n with
  | zero => rfl
  | succ n ih =>
    simp only [State.storedBytes]
    rw [memRead_memWrite _ _ _ _ (memWf_storedBytes s ea v n h), if_neg (fun e => hne n (by omega) e.symm)]
    exact ih (fun k hk => hne k (by omega))

/-- The state after reset has a memory in canonical form. -/
theorem memWf_reset : Memory.wf State.reset.mem = true := rfl

end Sys2Proof.Machine
end

