-- ==== Sys2Proof/Laws/Forms.lean ====
section
/-!
SUPPORT. For each shared shape of the meanings, everything it can do when it answers a next state, and the equation of
its answer when its checks pass.
-/

namespace Sys2Proof.Machine

theorem raise_ne_next (e : Exception) (s t : State) : raise e s ≠ .next t := by intro h; cases h

theorem raiseIllegal_ne_next (i : Instr) (s t : State) : raiseIllegal i s ≠ .next t := raise_ne_next _ s t

theorem complete_eq_next {s t : State} : complete s = .next t ↔ t = s.retire := by
  simp [complete, eq_comm]

/-- A checked effect goes on exactly when the instruction is legal and the effect goes on. -/
theorem checked_eq_next {i : Instr} {s t : State} {e : Outcome} :
    checked i s e = .next t ↔ legal i s = true ∧ e = .next t := by
  unfold checked
  split
  · rename_i h; simp [h]
  · rename_i h; simp [h, raiseIllegal_ne_next]

theorem checked_of_legal {i : Instr} {s : State} {e : Outcome} (h : legal i s = true) : checked i s e = e := by
  simp [checked, h]

theorem checked_of_not_legal {i : Instr} {s : State} {e : Outcome} (h : legal i s = false) :
    checked i s e = raiseIllegal i s := by
  simp [checked, h]

/-- A rounded effect goes on exactly when the instruction is legal, the mode resolves and the effect goes on. -/
theorem rounding_eq_next {i : Instr} {rm : BitVec 3} {s t : State} {k : Mode → Outcome} :
    rounding i rm s k = .next t ↔ legal i s = true ∧ ∃ m, s.resolveMode rm = some m ∧ k m = .next t := by
  unfold rounding
  rw [checked_eq_next]
  cases s.resolveMode rm <;> simp [raiseIllegal_ne_next]

theorem rounding_of_legal {i : Instr} {rm : BitVec 3} {s : State} {k : Mode → Outcome} {m : Mode}
    (h : legal i s = true) (hm : s.resolveMode rm = some m) : rounding i rm s k = k m := by
  simp [rounding, checked_of_legal h, hm]

/-- No mode, no effect: the instruction is illegal, whatever else holds (30_encoding.md R108). -/
theorem rounding_of_no_mode {i : Instr} {rm : BitVec 3} {s : State} {k : Mode → Outcome}
    (hm : s.resolveMode rm = none) : rounding i rm s k = raiseIllegal i s := by
  unfold rounding checked
  rw [hm]
  split <;> rfl

theorem completeFp_eq_next {fmt : Fmt} {rd : Reg} {r : Result fmt} {s t : State} :
    completeFp fmt rd r s = .next t ↔ t = ((s.writeFp fmt rd r.1).accrue r.2).retire := complete_eq_next

theorem completeX_eq_next {rd : Reg} {v : XWord} {fl : FlagSet} {s t : State} :
    completeX rd v fl s = .next t ↔ t = ((s.writeX rd v).accrue fl).retire := complete_eq_next

theorem rounded1_next {i : Instr} {fmt : Fmt} {op : Mode → Bits fmt → Result fmt} {rd rs1 : Reg} {rm : BitVec 3}
    {s t : State} (h : rounded1 i fmt op rd rs1 rm s = .next t) :
    legal i s = true ∧ ∃ m, s.resolveMode rm = some m ∧
      t = ((s.writeFp fmt rd (op m (s.readFp fmt rs1)).1).accrue (op m (s.readFp fmt rs1)).2).retire := by
  obtain ⟨hl, m, hm, hk⟩ := rounding_eq_next.1 h
  exact ⟨hl, m, hm, completeFp_eq_next.1 hk⟩

theorem rounded2_next {i : Instr} {fmt : Fmt} {op : Mode → Bits fmt → Bits fmt → Result fmt} {rd rs1 rs2 : Reg}
    {rm : BitVec 3} {s t : State} (h : rounded2 i fmt op rd rs1 rs2 rm s = .next t) :
    legal i s = true ∧ ∃ m, s.resolveMode rm = some m ∧
      t = ((s.writeFp fmt rd (op m (s.readFp fmt rs1) (s.readFp fmt rs2)).1).accrue
        (op m (s.readFp fmt rs1) (s.readFp fmt rs2)).2).retire := by
  obtain ⟨hl, m, hm, hk⟩ := rounding_eq_next.1 h
  exact ⟨hl, m, hm, completeFp_eq_next.1 hk⟩

theorem fused_next {i : Instr} {fmt : Fmt} {negp negc : Bool} {rd rs1 rs2 rs3 : Reg} {rm : BitVec 3} {s t : State}
    (h : fused i fmt negp negc rd rs1 rs2 rs3 rm s = .next t) :
    legal i s = true ∧ ∃ m, s.resolveMode rm = some m ∧
      ∃ r, r = ffma fmt negp negc m (s.readFp fmt rs1) (s.readFp fmt rs2) (s.readFp fmt rs3) ∧
        t = ((s.writeFp fmt rd r.1).accrue r.2).retire := by
  obtain ⟨hl, m, hm, hk⟩ := rounding_eq_next.1 h
  exact ⟨hl, m, hm, _, rfl, completeFp_eq_next.1 hk⟩

theorem unrounded2_next {i : Instr} {fmt : Fmt} {op : Bits fmt → Bits fmt → Result fmt} {rd rs1 rs2 : Reg}
    {s t : State} (h : unrounded2 i fmt op rd rs1 rs2 s = .next t) :
    legal i s = true ∧
      t = ((s.writeFp fmt rd (op (s.readFp fmt rs1) (s.readFp fmt rs2)).1).accrue
        (op (s.readFp fmt rs1) (s.readFp fmt rs2)).2).retire := by
  obtain ⟨hl, hk⟩ := checked_eq_next.1 h
  exact ⟨hl, completeFp_eq_next.1 hk⟩

theorem compareFp_next {i : Instr} {fmt : Fmt} {op : CmpOp} {rd rs1 rs2 : Reg} {s t : State}
    (h : compareFp i fmt op rd rs1 rs2 s = .next t) :
    legal i s = true ∧ ∃ r, r = fcmp fmt op (s.readFp fmt rs1) (s.readFp fmt rs2) ∧
      t = ((s.writeX rd ((BitVec.ofBool r.1).setWidth 64)).accrue r.2).retire := by
  obtain ⟨hl, hk⟩ := checked_eq_next.1 h
  exact ⟨hl, _, rfl, completeX_eq_next.1 hk⟩

theorem classify_next {i : Instr} {fmt : Fmt} {rd rs1 : Reg} {s t : State}
    (h : classify i fmt rd rs1 s = .next t) :
    legal i s = true ∧
      t = ((s.writeX rd ((fclass fmt (s.readFp fmt rs1)).setWidth 64)).accrue noFlags).retire := by
  obtain ⟨hl, hk⟩ := checked_eq_next.1 h
  exact ⟨hl, completeX_eq_next.1 hk⟩

theorem fpToInt_next {i : Instr} {fmt : Fmt} {y : IntFmt} {rd rs1 : Reg} {rm : BitVec 3} {s t : State}
    (h : fpToInt i fmt y rd rs1 rm s = .next t) :
    legal i s = true ∧ ∃ m, s.resolveMode rm = some m ∧ ∃ r, r = fcvtInt fmt y m (s.readFp fmt rs1) ∧
      t = ((s.writeInt y rd r.1).accrue r.2).retire := by
  obtain ⟨hl, m, hm, hk⟩ := rounding_eq_next.1 h
  exact ⟨hl, m, hm, _, rfl, complete_eq_next.1 hk⟩

theorem intToFp_next {i : Instr} {fmt : Fmt} {y : IntFmt} {rd rs1 : Reg} {rm : BitVec 3} {s t : State}
    (h : intToFp i fmt y rd rs1 rm s = .next t) :
    legal i s = true ∧ ∃ m, s.resolveMode rm = some m ∧ ∃ r, r = fcvtFp fmt m (s.readInt y rs1) ∧
      t = ((s.writeFp fmt rd r.1).accrue r.2).retire := by
  obtain ⟨hl, m, hm, hk⟩ := rounding_eq_next.1 h
  exact ⟨hl, m, hm, _, rfl, completeFp_eq_next.1 hk⟩

theorem fpToFp_next {i : Instr} {dst src : Fmt} {rd rs1 : Reg} {rm : BitVec 3} {s t : State}
    (h : fpToFp i dst src rd rs1 rm s = .next t) :
    legal i s = true ∧ ∃ m, s.resolveMode rm = some m ∧ ∃ r, r = fcvtFf dst src m (s.readFp src rs1) ∧
      t = ((s.writeFp dst rd r.1).accrue r.2).retire := by
  obtain ⟨hl, m, hm, hk⟩ := rounding_eq_next.1 h
  exact ⟨hl, m, hm, _, rfl, completeFp_eq_next.1 hk⟩

theorem modularConvert_next {i : Instr} {rd rs1 : Reg} {s t : State} (h : modularConvert i rd rs1 s = .next t) :
    legal i s = true ∧ ∃ r, r = fcvtmod (s.readFp .d rs1) ∧
      t = ((s.writeX rd (r.1.signExtend 64)).accrue r.2).retire := by
  obtain ⟨hl, hk⟩ := checked_eq_next.1 h
  exact ⟨hl, _, rfl, completeX_eq_next.1 hk⟩

theorem moveToX_next {i : Instr} {fmt : Fmt} {rd rs1 : Reg} {s t : State} (h : moveToX i fmt rd rs1 s = .next t) :
    legal i s = true ∧ t = (s.writeX rd (((s.readF rs1).setWidth fmt.width).signExtend 64)).retire := by
  obtain ⟨hl, hk⟩ := checked_eq_next.1 h
  exact ⟨hl, complete_eq_next.1 hk⟩

theorem moveFromX_next {i : Instr} {fmt : Fmt} {rd rs1 : Reg} {s t : State}
    (h : moveFromX i fmt rd rs1 s = .next t) :
    legal i s = true ∧ t = (s.writeF rd (box s.flen fmt ((s.readX rs1).setWidth fmt.width))).retire := by
  obtain ⟨hl, hk⟩ := checked_eq_next.1 h
  exact ⟨hl, complete_eq_next.1 hk⟩

theorem moveHighToX_next {i : Instr} {n : Nat} {rd rs1 : Reg} {s t : State}
    (h : moveHighToX i n rd rs1 s = .next t) :
    legal i s = true ∧ t = (s.writeX rd (((s.readF rs1).extractLsb' n n).signExtend 64)).retire := by
  obtain ⟨hl, hk⟩ := checked_eq_next.1 h
  exact ⟨hl, complete_eq_next.1 hk⟩

theorem movePairFromX_next {i : Instr} {fmt : Fmt} {n : Nat} {rd rs1 rs2 : Reg} {s t : State}
    (h : movePairFromX i fmt n rd rs1 rs2 s = .next t) :
    legal i s = true ∧ t = (s.writeF rd
      (box s.flen fmt (((s.readX rs2).setWidth n ++ (s.readX rs1).setWidth n).setWidth fmt.width))).retire := by
  obtain ⟨hl, hk⟩ := checked_eq_next.1 h
  exact ⟨hl, complete_eq_next.1 hk⟩

theorem loadConstant_next {i : Instr} {fmt : Fmt} {rd : Reg} {k : BitVec 5} {s t : State}
    (h : loadConstant i fmt rd k s = .next t) :
    legal i s = true ∧ t = (s.writeF rd (box s.flen fmt (fli fmt k))).retire := by
  obtain ⟨hl, hk⟩ := checked_eq_next.1 h
  exact ⟨hl, complete_eq_next.1 hk⟩

theorem load_next {i : Instr} {fmt : Fmt} {rd rs1 : Reg} {imm : BitVec 12} {s t : State}
    (h : load i fmt rd rs1 imm s = .next t) :
    legal i s = true ∧ s.misalignedTrap (s.effAddr rs1 imm) (fmt.width / 8) = false ∧
      s.allMapped (s.effAddr rs1 imm) (fmt.width / 8) = true ∧
      t = (s.writeF rd (box s.flen fmt
        ((s.loadBytes (s.effAddr rs1 imm) (fmt.width / 8)).setWidth fmt.width))).retire := by
  obtain ⟨hl, hk⟩ := checked_eq_next.1 h
  dsimp only at hk
  split at hk
  · exact absurd hk (raise_ne_next _ _ _)
  · rename_i hm
    split at hk
    · rename_i ha
      exact ⟨hl, by simpa using hm, ha, complete_eq_next.1 hk⟩
    · exact absurd hk (raise_ne_next _ _ _)

theorem store_next {i : Instr} {fmt : Fmt} {rs2 rs1 : Reg} {imm : BitVec 12} {s t : State}
    (h : store i fmt rs2 rs1 imm s = .next t) :
    legal i s = true ∧ s.misalignedTrap (s.effAddr rs1 imm) (fmt.width / 8) = false ∧
      s.allMapped (s.effAddr rs1 imm) (fmt.width / 8) = true ∧
      s.touchesText (s.effAddr rs1 imm) (fmt.width / 8) = false ∧
      t = (s.storeBytes (s.effAddr rs1 imm) (fmt.width / 8) (s.readF rs2)).retire := by
  obtain ⟨hl, hk⟩ := checked_eq_next.1 h
  dsimp only at hk
  split at hk
  · exact absurd hk (raise_ne_next _ _ _)
  · rename_i hm
    split at hk
    · rename_i ha
      split at hk
      · cases hk
      · rename_i ht
        exact ⟨hl, by simpa using hm, ha, by simpa using ht, complete_eq_next.1 hk⟩
    · exact absurd hk (raise_ne_next _ _ _)

theorem csrAccess_next {i : Instr} {rd : Reg} {csr : BitVec 12} {write : Bool} {new : XWord → XWord} {s t : State}
    (h : csrAccess i rd csr write new s = .next t) :
    ∃ c, csrOf csr = some c ∧ legal i s = true ∧
      t = ((if write then s.writeCsr c (new (s.readCsr c)) else s).writeX rd (s.readCsr c)).retire := by
  unfold csrAccess at h
  split at h
  · cases h
  · rename_i c hc
    obtain ⟨hl, hk⟩ := checked_eq_next.1 h
    exact ⟨c, hc, hl, complete_eq_next.1 hk⟩

end Sys2Proof.Machine
end

