-- ==== Sys2Proof/Laws/PerInstr.lean ====
section
/-!
SUPPORT. A law stated per instruction: the low seven bits of an instruction's word are the major opcode of its row
(30_encoding.md R97), whatever its operand fields hold.
-/

namespace Sys2Proof.Laws

set_option Elab.async false

/-- A field from bit 7 up leaves the low seven bits alone. -/
theorem place_low {n : Nat} (lo : Nat) (v : BitVec n) (h : 7 ≤ lo) : (place lo v).extractLsb' 0 7 = 0#7 := by
  apply BitVec.eq_of_getLsbD_eq
  intro i hi
  have : i < lo := by omega
  simp [place, this]

/-- The low seven bits of a union. -/
theorem or_low (a b : Word) : (a ||| b).extractLsb' 0 7 = a.extractLsb' 0 7 ||| b.extractLsb' 0 7 := by
  apply BitVec.eq_of_getLsbD_eq
  intro i hi
  simp [hi]

@[simp] theorem encLoad_low (b : Word) (rd rs1 : Reg) (imm : BitVec 12) :
    (encLoad b rd rs1 imm).extractLsb' 0 7 = b.extractLsb' 0 7 := by
  simp [encLoad, or_low, place_low]

@[simp] theorem encStore_low (b : Word) (rs2 rs1 : Reg) (imm : BitVec 12) :
    (encStore b rs2 rs1 imm).extractLsb' 0 7 = b.extractLsb' 0 7 := by
  simp [encStore, or_low, place_low]

@[simp] theorem enc1_low (b : Word) (rd rs1 : Reg) : (enc1 b rd rs1).extractLsb' 0 7 = b.extractLsb' 0 7 := by
  simp [enc1, or_low, place_low]

@[simp] theorem enc1m_low (b : Word) (rd rs1 : Reg) (rm : BitVec 3) :
    (enc1m b rd rs1 rm).extractLsb' 0 7 = b.extractLsb' 0 7 := by
  simp [enc1m, or_low, place_low]

@[simp] theorem enc2_low (b : Word) (rd rs1 rs2 : Reg) :
    (enc2 b rd rs1 rs2).extractLsb' 0 7 = b.extractLsb' 0 7 := by
  simp [enc2, or_low, place_low]

@[simp] theorem enc2m_low (b : Word) (rd rs1 rs2 : Reg) (rm : BitVec 3) :
    (enc2m b rd rs1 rs2 rm).extractLsb' 0 7 = b.extractLsb' 0 7 := by
  simp [enc2m, or_low, place_low]

@[simp] theorem enc3m_low (b : Word) (rd rs1 rs2 rs3 : Reg) (rm : BitVec 3) :
    (enc3m b rd rs1 rs2 rs3 rm).extractLsb' 0 7 = b.extractLsb' 0 7 := by
  simp [enc3m, or_low, place_low]

@[simp] theorem encCsr_low (b : Word) (rd : Reg) (csr : BitVec 12) (src : BitVec 5) :
    (encCsr b rd csr src).extractLsb' 0 7 = b.extractLsb' 0 7 := by
  simp [encCsr, or_low, place_low]

/-- The major opcodes of 30_encoding.md R97. -/
def majors : List (BitVec 7) :=
  [0b0000111#7, 0b0100111#7, 0b1000011#7, 0b1000111#7, 0b1001011#7, 0b1001111#7, 0b1010011#7, 0b1110011#7]

/-- The low seven bits of the instruction's word are one of the spec's major opcodes. -/
def OpcodeBits.Statement (i : Instr) : Prop := (encode i).extractLsb' 0 7 ∈ majors

namespace OpcodeBits

theorem flw (rd rs1 : Reg) (imm : BitVec 12) : Statement (.flw rd rs1 imm) := by simp [Statement, encode, majors]

theorem fsw (rs2 rs1 : Reg) (imm : BitVec 12) : Statement (.fsw rs2 rs1 imm) := by simp [Statement, encode, majors]

theorem faddS (rd rs1 rs2 : Reg) (rm : BitVec 3) : Statement (.faddS rd rs1 rs2 rm) := by simp [Statement, encode, majors]

theorem fsubS (rd rs1 rs2 : Reg) (rm : BitVec 3) : Statement (.fsubS rd rs1 rs2 rm) := by simp [Statement, encode, majors]

theorem fmulS (rd rs1 rs2 : Reg) (rm : BitVec 3) : Statement (.fmulS rd rs1 rs2 rm) := by simp [Statement, encode, majors]

theorem fdivS (rd rs1 rs2 : Reg) (rm : BitVec 3) : Statement (.fdivS rd rs1 rs2 rm) := by simp [Statement, encode, majors]

theorem fsqrtS (rd rs1 : Reg) (rm : BitVec 3) : Statement (.fsqrtS rd rs1 rm) := by simp [Statement, encode, majors]

theorem fminS (rd rs1 rs2 : Reg) : Statement (.fminS rd rs1 rs2) := by simp [Statement, encode, majors]

theorem fmaxS (rd rs1 rs2 : Reg) : Statement (.fmaxS rd rs1 rs2) := by simp [Statement, encode, majors]

theorem fmaddS (rd rs1 rs2 rs3 : Reg) (rm : BitVec 3) : Statement (.fmaddS rd rs1 rs2 rs3 rm) := by simp [Statement, encode, majors]

theorem fmsubS (rd rs1 rs2 rs3 : Reg) (rm : BitVec 3) : Statement (.fmsubS rd rs1 rs2 rs3 rm) := by simp [Statement, encode, majors]

theorem fnmsubS (rd rs1 rs2 rs3 : Reg) (rm : BitVec 3) : Statement (.fnmsubS rd rs1 rs2 rs3 rm) := by simp [Statement, encode, majors]

theorem fnmaddS (rd rs1 rs2 rs3 : Reg) (rm : BitVec 3) : Statement (.fnmaddS rd rs1 rs2 rs3 rm) := by simp [Statement, encode, majors]

theorem fcvtWS (rd rs1 : Reg) (rm : BitVec 3) : Statement (.fcvtWS rd rs1 rm) := by simp [Statement, encode, majors]

theorem fcvtWuS (rd rs1 : Reg) (rm : BitVec 3) : Statement (.fcvtWuS rd rs1 rm) := by simp [Statement, encode, majors]

theorem fcvtLS (rd rs1 : Reg) (rm : BitVec 3) : Statement (.fcvtLS rd rs1 rm) := by simp [Statement, encode, majors]

theorem fcvtLuS (rd rs1 : Reg) (rm : BitVec 3) : Statement (.fcvtLuS rd rs1 rm) := by simp [Statement, encode, majors]

theorem fcvtSW (rd rs1 : Reg) (rm : BitVec 3) : Statement (.fcvtSW rd rs1 rm) := by simp [Statement, encode, majors]

theorem fcvtSWu (rd rs1 : Reg) (rm : BitVec 3) : Statement (.fcvtSWu rd rs1 rm) := by simp [Statement, encode, majors]

theorem fcvtSL (rd rs1 : Reg) (rm : BitVec 3) : Statement (.fcvtSL rd rs1 rm) := by simp [Statement, encode, majors]

theorem fcvtSLu (rd rs1 : Reg) (rm : BitVec 3) : Statement (.fcvtSLu rd rs1 rm) := by simp [Statement, encode, majors]

theorem fsgnjS (rd rs1 rs2 : Reg) : Statement (.fsgnjS rd rs1 rs2) := by simp [Statement, encode, majors]

theorem fsgnjnS (rd rs1 rs2 : Reg) : Statement (.fsgnjnS rd rs1 rs2) := by simp [Statement, encode, majors]

theorem fsgnjxS (rd rs1 rs2 : Reg) : Statement (.fsgnjxS rd rs1 rs2) := by simp [Statement, encode, majors]

theorem fmvXW (rd rs1 : Reg) : Statement (.fmvXW rd rs1) := by simp [Statement, encode, majors]

theorem fmvWX (rd rs1 : Reg) : Statement (.fmvWX rd rs1) := by simp [Statement, encode, majors]

theorem feqS (rd rs1 rs2 : Reg) : Statement (.feqS rd rs1 rs2) := by simp [Statement, encode, majors]

theorem fltS (rd rs1 rs2 : Reg) : Statement (.fltS rd rs1 rs2) := by simp [Statement, encode, majors]

theorem fleS (rd rs1 rs2 : Reg) : Statement (.fleS rd rs1 rs2) := by simp [Statement, encode, majors]

theorem fclassS (rd rs1 : Reg) : Statement (.fclassS rd rs1) := by simp [Statement, encode, majors]

theorem fld (rd rs1 : Reg) (imm : BitVec 12) : Statement (.fld rd rs1 imm) := by simp [Statement, encode, majors]

theorem fsd (rs2 rs1 : Reg) (imm : BitVec 12) : Statement (.fsd rs2 rs1 imm) := by simp [Statement, encode, majors]

theorem faddD (rd rs1 rs2 : Reg) (rm : BitVec 3) : Statement (.faddD rd rs1 rs2 rm) := by simp [Statement, encode, majors]

theorem fsubD (rd rs1 rs2 : Reg) (rm : BitVec 3) : Statement (.fsubD rd rs1 rs2 rm) := by simp [Statement, encode, majors]

theorem fmulD (rd rs1 rs2 : Reg) (rm : BitVec 3) : Statement (.fmulD rd rs1 rs2 rm) := by simp [Statement, encode, majors]

theorem fdivD (rd rs1 rs2 : Reg) (rm : BitVec 3) : Statement (.fdivD rd rs1 rs2 rm) := by simp [Statement, encode, majors]

theorem fsqrtD (rd rs1 : Reg) (rm : BitVec 3) : Statement (.fsqrtD rd rs1 rm) := by simp [Statement, encode, majors]

theorem fminD (rd rs1 rs2 : Reg) : Statement (.fminD rd rs1 rs2) := by simp [Statement, encode, majors]

theorem fmaxD (rd rs1 rs2 : Reg) : Statement (.fmaxD rd rs1 rs2) := by simp [Statement, encode, majors]

theorem fmaddD (rd rs1 rs2 rs3 : Reg) (rm : BitVec 3) : Statement (.fmaddD rd rs1 rs2 rs3 rm) := by simp [Statement, encode, majors]

theorem fmsubD (rd rs1 rs2 rs3 : Reg) (rm : BitVec 3) : Statement (.fmsubD rd rs1 rs2 rs3 rm) := by simp [Statement, encode, majors]

theorem fnmsubD (rd rs1 rs2 rs3 : Reg) (rm : BitVec 3) : Statement (.fnmsubD rd rs1 rs2 rs3 rm) := by simp [Statement, encode, majors]

theorem fnmaddD (rd rs1 rs2 rs3 : Reg) (rm : BitVec 3) : Statement (.fnmaddD rd rs1 rs2 rs3 rm) := by simp [Statement, encode, majors]

theorem fcvtWD (rd rs1 : Reg) (rm : BitVec 3) : Statement (.fcvtWD rd rs1 rm) := by simp [Statement, encode, majors]

theorem fcvtWuD (rd rs1 : Reg) (rm : BitVec 3) : Statement (.fcvtWuD rd rs1 rm) := by simp [Statement, encode, majors]

theorem fcvtLD (rd rs1 : Reg) (rm : BitVec 3) : Statement (.fcvtLD rd rs1 rm) := by simp [Statement, encode, majors]

theorem fcvtLuD (rd rs1 : Reg) (rm : BitVec 3) : Statement (.fcvtLuD rd rs1 rm) := by simp [Statement, encode, majors]

theorem fcvtDW (rd rs1 : Reg) (rm : BitVec 3) : Statement (.fcvtDW rd rs1 rm) := by simp [Statement, encode, majors]

theorem fcvtDWu (rd rs1 : Reg) (rm : BitVec 3) : Statement (.fcvtDWu rd rs1 rm) := by simp [Statement, encode, majors]

theorem fcvtDL (rd rs1 : Reg) (rm : BitVec 3) : Statement (.fcvtDL rd rs1 rm) := by simp [Statement, encode, majors]

theorem fcvtDLu (rd rs1 : Reg) (rm : BitVec 3) : Statement (.fcvtDLu rd rs1 rm) := by simp [Statement, encode, majors]

theorem fcvtSD (rd rs1 : Reg) (rm : BitVec 3) : Statement (.fcvtSD rd rs1 rm) := by simp [Statement, encode, majors]

theorem fcvtDS (rd rs1 : Reg) (rm : BitVec 3) : Statement (.fcvtDS rd rs1 rm) := by simp [Statement, encode, majors]

theorem fsgnjD (rd rs1 rs2 : Reg) : Statement (.fsgnjD rd rs1 rs2) := by simp [Statement, encode, majors]

theorem fsgnjnD (rd rs1 rs2 : Reg) : Statement (.fsgnjnD rd rs1 rs2) := by simp [Statement, encode, majors]

theorem fsgnjxD (rd rs1 rs2 : Reg) : Statement (.fsgnjxD rd rs1 rs2) := by simp [Statement, encode, majors]

theorem fmvXD (rd rs1 : Reg) : Statement (.fmvXD rd rs1) := by simp [Statement, encode, majors]

theorem fmvDX (rd rs1 : Reg) : Statement (.fmvDX rd rs1) := by simp [Statement, encode, majors]

theorem feqD (rd rs1 rs2 : Reg) : Statement (.feqD rd rs1 rs2) := by simp [Statement, encode, majors]

theorem fltD (rd rs1 rs2 : Reg) : Statement (.fltD rd rs1 rs2) := by simp [Statement, encode, majors]

theorem fleD (rd rs1 rs2 : Reg) : Statement (.fleD rd rs1 rs2) := by simp [Statement, encode, majors]

theorem fclassD (rd rs1 : Reg) : Statement (.fclassD rd rs1) := by simp [Statement, encode, majors]

theorem flq (rd rs1 : Reg) (imm : BitVec 12) : Statement (.flq rd rs1 imm) := by simp [Statement, encode, majors]

theorem fsq (rs2 rs1 : Reg) (imm : BitVec 12) : Statement (.fsq rs2 rs1 imm) := by simp [Statement, encode, majors]

theorem faddQ (rd rs1 rs2 : Reg) (rm : BitVec 3) : Statement (.faddQ rd rs1 rs2 rm) := by simp [Statement, encode, majors]

theorem fsubQ (rd rs1 rs2 : Reg) (rm : BitVec 3) : Statement (.fsubQ rd rs1 rs2 rm) := by simp [Statement, encode, majors]

theorem fmulQ (rd rs1 rs2 : Reg) (rm : BitVec 3) : Statement (.fmulQ rd rs1 rs2 rm) := by simp [Statement, encode, majors]

theorem fdivQ (rd rs1 rs2 : Reg) (rm : BitVec 3) : Statement (.fdivQ rd rs1 rs2 rm) := by simp [Statement, encode, majors]

theorem fsqrtQ (rd rs1 : Reg) (rm : BitVec 3) : Statement (.fsqrtQ rd rs1 rm) := by simp [Statement, encode, majors]

theorem fminQ (rd rs1 rs2 : Reg) : Statement (.fminQ rd rs1 rs2) := by simp [Statement, encode, majors]

theorem fmaxQ (rd rs1 rs2 : Reg) : Statement (.fmaxQ rd rs1 rs2) := by simp [Statement, encode, majors]

theorem fmaddQ (rd rs1 rs2 rs3 : Reg) (rm : BitVec 3) : Statement (.fmaddQ rd rs1 rs2 rs3 rm) := by simp [Statement, encode, majors]

theorem fmsubQ (rd rs1 rs2 rs3 : Reg) (rm : BitVec 3) : Statement (.fmsubQ rd rs1 rs2 rs3 rm) := by simp [Statement, encode, majors]

theorem fnmsubQ (rd rs1 rs2 rs3 : Reg) (rm : BitVec 3) : Statement (.fnmsubQ rd rs1 rs2 rs3 rm) := by simp [Statement, encode, majors]

theorem fnmaddQ (rd rs1 rs2 rs3 : Reg) (rm : BitVec 3) : Statement (.fnmaddQ rd rs1 rs2 rs3 rm) := by simp [Statement, encode, majors]

theorem fcvtWQ (rd rs1 : Reg) (rm : BitVec 3) : Statement (.fcvtWQ rd rs1 rm) := by simp [Statement, encode, majors]

theorem fcvtWuQ (rd rs1 : Reg) (rm : BitVec 3) : Statement (.fcvtWuQ rd rs1 rm) := by simp [Statement, encode, majors]

theorem fcvtLQ (rd rs1 : Reg) (rm : BitVec 3) : Statement (.fcvtLQ rd rs1 rm) := by simp [Statement, encode, majors]

theorem fcvtLuQ (rd rs1 : Reg) (rm : BitVec 3) : Statement (.fcvtLuQ rd rs1 rm) := by simp [Statement, encode, majors]

theorem fcvtQW (rd rs1 : Reg) (rm : BitVec 3) : Statement (.fcvtQW rd rs1 rm) := by simp [Statement, encode, majors]

theorem fcvtQWu (rd rs1 : Reg) (rm : BitVec 3) : Statement (.fcvtQWu rd rs1 rm) := by simp [Statement, encode, majors]

theorem fcvtQL (rd rs1 : Reg) (rm : BitVec 3) : Statement (.fcvtQL rd rs1 rm) := by simp [Statement, encode, majors]

theorem fcvtQLu (rd rs1 : Reg) (rm : BitVec 3) : Statement (.fcvtQLu rd rs1 rm) := by simp [Statement, encode, majors]

theorem fcvtSQ (rd rs1 : Reg) (rm : BitVec 3) : Statement (.fcvtSQ rd rs1 rm) := by simp [Statement, encode, majors]

theorem fcvtQS (rd rs1 : Reg) (rm : BitVec 3) : Statement (.fcvtQS rd rs1 rm) := by simp [Statement, encode, majors]

theorem fcvtDQ (rd rs1 : Reg) (rm : BitVec 3) : Statement (.fcvtDQ rd rs1 rm) := by simp [Statement, encode, majors]

theorem fcvtQD (rd rs1 : Reg) (rm : BitVec 3) : Statement (.fcvtQD rd rs1 rm) := by simp [Statement, encode, majors]

theorem fsgnjQ (rd rs1 rs2 : Reg) : Statement (.fsgnjQ rd rs1 rs2) := by simp [Statement, encode, majors]

theorem fsgnjnQ (rd rs1 rs2 : Reg) : Statement (.fsgnjnQ rd rs1 rs2) := by simp [Statement, encode, majors]

theorem fsgnjxQ (rd rs1 rs2 : Reg) : Statement (.fsgnjxQ rd rs1 rs2) := by simp [Statement, encode, majors]

theorem feqQ (rd rs1 rs2 : Reg) : Statement (.feqQ rd rs1 rs2) := by simp [Statement, encode, majors]

theorem fltQ (rd rs1 rs2 : Reg) : Statement (.fltQ rd rs1 rs2) := by simp [Statement, encode, majors]

theorem fleQ (rd rs1 rs2 : Reg) : Statement (.fleQ rd rs1 rs2) := by simp [Statement, encode, majors]

theorem fclassQ (rd rs1 : Reg) : Statement (.fclassQ rd rs1) := by simp [Statement, encode, majors]

theorem flh (rd rs1 : Reg) (imm : BitVec 12) : Statement (.flh rd rs1 imm) := by simp [Statement, encode, majors]

theorem fsh (rs2 rs1 : Reg) (imm : BitVec 12) : Statement (.fsh rs2 rs1 imm) := by simp [Statement, encode, majors]

theorem faddH (rd rs1 rs2 : Reg) (rm : BitVec 3) : Statement (.faddH rd rs1 rs2 rm) := by simp [Statement, encode, majors]

theorem fsubH (rd rs1 rs2 : Reg) (rm : BitVec 3) : Statement (.fsubH rd rs1 rs2 rm) := by simp [Statement, encode, majors]

theorem fmulH (rd rs1 rs2 : Reg) (rm : BitVec 3) : Statement (.fmulH rd rs1 rs2 rm) := by simp [Statement, encode, majors]

theorem fdivH (rd rs1 rs2 : Reg) (rm : BitVec 3) : Statement (.fdivH rd rs1 rs2 rm) := by simp [Statement, encode, majors]

theorem fsqrtH (rd rs1 : Reg) (rm : BitVec 3) : Statement (.fsqrtH rd rs1 rm) := by simp [Statement, encode, majors]

theorem fminH (rd rs1 rs2 : Reg) : Statement (.fminH rd rs1 rs2) := by simp [Statement, encode, majors]

theorem fmaxH (rd rs1 rs2 : Reg) : Statement (.fmaxH rd rs1 rs2) := by simp [Statement, encode, majors]

theorem fmaddH (rd rs1 rs2 rs3 : Reg) (rm : BitVec 3) : Statement (.fmaddH rd rs1 rs2 rs3 rm) := by simp [Statement, encode, majors]

theorem fmsubH (rd rs1 rs2 rs3 : Reg) (rm : BitVec 3) : Statement (.fmsubH rd rs1 rs2 rs3 rm) := by simp [Statement, encode, majors]

theorem fnmsubH (rd rs1 rs2 rs3 : Reg) (rm : BitVec 3) : Statement (.fnmsubH rd rs1 rs2 rs3 rm) := by simp [Statement, encode, majors]

theorem fnmaddH (rd rs1 rs2 rs3 : Reg) (rm : BitVec 3) : Statement (.fnmaddH rd rs1 rs2 rs3 rm) := by simp [Statement, encode, majors]

theorem fcvtWH (rd rs1 : Reg) (rm : BitVec 3) : Statement (.fcvtWH rd rs1 rm) := by simp [Statement, encode, majors]

theorem fcvtWuH (rd rs1 : Reg) (rm : BitVec 3) : Statement (.fcvtWuH rd rs1 rm) := by simp [Statement, encode, majors]

theorem fcvtLH (rd rs1 : Reg) (rm : BitVec 3) : Statement (.fcvtLH rd rs1 rm) := by simp [Statement, encode, majors]

theorem fcvtLuH (rd rs1 : Reg) (rm : BitVec 3) : Statement (.fcvtLuH rd rs1 rm) := by simp [Statement, encode, majors]

theorem fcvtHW (rd rs1 : Reg) (rm : BitVec 3) : Statement (.fcvtHW rd rs1 rm) := by simp [Statement, encode, majors]

theorem fcvtHWu (rd rs1 : Reg) (rm : BitVec 3) : Statement (.fcvtHWu rd rs1 rm) := by simp [Statement, encode, majors]

theorem fcvtHL (rd rs1 : Reg) (rm : BitVec 3) : Statement (.fcvtHL rd rs1 rm) := by simp [Statement, encode, majors]

theorem fcvtHLu (rd rs1 : Reg) (rm : BitVec 3) : Statement (.fcvtHLu rd rs1 rm) := by simp [Statement, encode, majors]

theorem fcvtSH (rd rs1 : Reg) (rm : BitVec 3) : Statement (.fcvtSH rd rs1 rm) := by simp [Statement, encode, majors]

theorem fcvtHS (rd rs1 : Reg) (rm : BitVec 3) : Statement (.fcvtHS rd rs1 rm) := by simp [Statement, encode, majors]

theorem fcvtDH (rd rs1 : Reg) (rm : BitVec 3) : Statement (.fcvtDH rd rs1 rm) := by simp [Statement, encode, majors]

theorem fcvtHD (rd rs1 : Reg) (rm : BitVec 3) : Statement (.fcvtHD rd rs1 rm) := by simp [Statement, encode, majors]

theorem fcvtQH (rd rs1 : Reg) (rm : BitVec 3) : Statement (.fcvtQH rd rs1 rm) := by simp [Statement, encode, majors]

theorem fcvtHQ (rd rs1 : Reg) (rm : BitVec 3) : Statement (.fcvtHQ rd rs1 rm) := by simp [Statement, encode, majors]

theorem fsgnjH (rd rs1 rs2 : Reg) : Statement (.fsgnjH rd rs1 rs2) := by simp [Statement, encode, majors]

theorem fsgnjnH (rd rs1 rs2 : Reg) : Statement (.fsgnjnH rd rs1 rs2) := by simp [Statement, encode, majors]

theorem fsgnjxH (rd rs1 rs2 : Reg) : Statement (.fsgnjxH rd rs1 rs2) := by simp [Statement, encode, majors]

theorem fmvXH (rd rs1 : Reg) : Statement (.fmvXH rd rs1) := by simp [Statement, encode, majors]

theorem fmvHX (rd rs1 : Reg) : Statement (.fmvHX rd rs1) := by simp [Statement, encode, majors]

theorem feqH (rd rs1 rs2 : Reg) : Statement (.feqH rd rs1 rs2) := by simp [Statement, encode, majors]

theorem fltH (rd rs1 rs2 : Reg) : Statement (.fltH rd rs1 rs2) := by simp [Statement, encode, majors]

theorem fleH (rd rs1 rs2 : Reg) : Statement (.fleH rd rs1 rs2) := by simp [Statement, encode, majors]

theorem fclassH (rd rs1 : Reg) : Statement (.fclassH rd rs1) := by simp [Statement, encode, majors]

theorem fliS (rd : Reg) (k : BitVec 5) : Statement (.fliS rd k) := by simp [Statement, encode, majors]

theorem fliD (rd : Reg) (k : BitVec 5) : Statement (.fliD rd k) := by simp [Statement, encode, majors]

theorem fliH (rd : Reg) (k : BitVec 5) : Statement (.fliH rd k) := by simp [Statement, encode, majors]

theorem fliQ (rd : Reg) (k : BitVec 5) : Statement (.fliQ rd k) := by simp [Statement, encode, majors]

theorem fminmS (rd rs1 rs2 : Reg) : Statement (.fminmS rd rs1 rs2) := by simp [Statement, encode, majors]

theorem fmaxmS (rd rs1 rs2 : Reg) : Statement (.fmaxmS rd rs1 rs2) := by simp [Statement, encode, majors]

theorem fminmD (rd rs1 rs2 : Reg) : Statement (.fminmD rd rs1 rs2) := by simp [Statement, encode, majors]

theorem fmaxmD (rd rs1 rs2 : Reg) : Statement (.fmaxmD rd rs1 rs2) := by simp [Statement, encode, majors]

theorem fminmH (rd rs1 rs2 : Reg) : Statement (.fminmH rd rs1 rs2) := by simp [Statement, encode, majors]

theorem fmaxmH (rd rs1 rs2 : Reg) : Statement (.fmaxmH rd rs1 rs2) := by simp [Statement, encode, majors]

theorem fminmQ (rd rs1 rs2 : Reg) : Statement (.fminmQ rd rs1 rs2) := by simp [Statement, encode, majors]

theorem fmaxmQ (rd rs1 rs2 : Reg) : Statement (.fmaxmQ rd rs1 rs2) := by simp [Statement, encode, majors]

theorem froundS (rd rs1 : Reg) (rm : BitVec 3) : Statement (.froundS rd rs1 rm) := by simp [Statement, encode, majors]

theorem froundnxS (rd rs1 : Reg) (rm : BitVec 3) : Statement (.froundnxS rd rs1 rm) := by simp [Statement, encode, majors]

theorem froundD (rd rs1 : Reg) (rm : BitVec 3) : Statement (.froundD rd rs1 rm) := by simp [Statement, encode, majors]

theorem froundnxD (rd rs1 : Reg) (rm : BitVec 3) : Statement (.froundnxD rd rs1 rm) := by simp [Statement, encode, majors]

theorem froundH (rd rs1 : Reg) (rm : BitVec 3) : Statement (.froundH rd rs1 rm) := by simp [Statement, encode, majors]

theorem froundnxH (rd rs1 : Reg) (rm : BitVec 3) : Statement (.froundnxH rd rs1 rm) := by simp [Statement, encode, majors]

theorem froundQ (rd rs1 : Reg) (rm : BitVec 3) : Statement (.froundQ rd rs1 rm) := by simp [Statement, encode, majors]

theorem froundnxQ (rd rs1 : Reg) (rm : BitVec 3) : Statement (.froundnxQ rd rs1 rm) := by simp [Statement, encode, majors]

theorem fcvtmodWD (rd rs1 : Reg) : Statement (.fcvtmodWD rd rs1) := by simp [Statement, encode, majors]

theorem fmvhXD (rd rs1 : Reg) : Statement (.fmvhXD rd rs1) := by simp [Statement, encode, majors]

theorem fmvpDX (rd rs1 rs2 : Reg) : Statement (.fmvpDX rd rs1 rs2) := by simp [Statement, encode, majors]

theorem fmvhXQ (rd rs1 : Reg) : Statement (.fmvhXQ rd rs1) := by simp [Statement, encode, majors]

theorem fmvpQX (rd rs1 rs2 : Reg) : Statement (.fmvpQX rd rs1 rs2) := by simp [Statement, encode, majors]

theorem fleqS (rd rs1 rs2 : Reg) : Statement (.fleqS rd rs1 rs2) := by simp [Statement, encode, majors]

theorem fltqS (rd rs1 rs2 : Reg) : Statement (.fltqS rd rs1 rs2) := by simp [Statement, encode, majors]

theorem fleqD (rd rs1 rs2 : Reg) : Statement (.fleqD rd rs1 rs2) := by simp [Statement, encode, majors]

theorem fltqD (rd rs1 rs2 : Reg) : Statement (.fltqD rd rs1 rs2) := by simp [Statement, encode, majors]

theorem fleqH (rd rs1 rs2 : Reg) : Statement (.fleqH rd rs1 rs2) := by simp [Statement, encode, majors]

theorem fltqH (rd rs1 rs2 : Reg) : Statement (.fltqH rd rs1 rs2) := by simp [Statement, encode, majors]

theorem fleqQ (rd rs1 rs2 : Reg) : Statement (.fleqQ rd rs1 rs2) := by simp [Statement, encode, majors]

theorem fltqQ (rd rs1 rs2 : Reg) : Statement (.fltqQ rd rs1 rs2) := by simp [Statement, encode, majors]

theorem fcvtBf16S (rd rs1 : Reg) (rm : BitVec 3) : Statement (.fcvtBf16S rd rs1 rm) := by simp [Statement, encode, majors]

theorem fcvtSBf16 (rd rs1 : Reg) (rm : BitVec 3) : Statement (.fcvtSBf16 rd rs1 rm) := by simp [Statement, encode, majors]

theorem csrrw (rd : Reg) (csr : BitVec 12) (rs1 : Reg) : Statement (.csrrw rd csr rs1) := by simp [Statement, encode, majors]

theorem csrrs (rd : Reg) (csr : BitVec 12) (rs1 : Reg) : Statement (.csrrs rd csr rs1) := by simp [Statement, encode, majors]

theorem csrrc (rd : Reg) (csr : BitVec 12) (rs1 : Reg) : Statement (.csrrc rd csr rs1) := by simp [Statement, encode, majors]

theorem csrrwi (rd : Reg) (csr : BitVec 12) (uimm : BitVec 5) : Statement (.csrrwi rd csr uimm) := by simp [Statement, encode, majors]

theorem csrrsi (rd : Reg) (csr : BitVec 12) (uimm : BitVec 5) : Statement (.csrrsi rd csr uimm) := by simp [Statement, encode, majors]

theorem csrrci (rd : Reg) (csr : BitVec 12) (uimm : BitVec 5) : Statement (.csrrci rd csr uimm) := by simp [Statement, encode, majors]

end OpcodeBits

end Sys2Proof.Laws
end

