-- ==== Sys2Proof/Laws/Registers.lean ====
section
/-!
SUPPORT. What a register reads as after a write, and that the containers stay cut to their widths.
-/

namespace Sys2Proof.Machine

theorem toNat_lt_32 (r : Reg) : r.toNat < 32 := r.isLt

/-- x0 reads as zero (10_state.md R21). -/
@[simp] theorem State.readX_zero (s : State) : s.readX 0 = 0 := rfl

/-- Cutting twice is cutting once. -/
@[simp] theorem State.trunc_trunc (s : State) (v : XWord) : s.trunc (s.trunc v) = s.trunc v := by
  unfold State.trunc State.xlen
  cases s.cfg.xlen <;> simp [xlenBits]

/-- On RV64 a container is the register. -/
theorem State.trunc_rv64 (s : State) (h : s.cfg.xlen = .rv64) (v : XWord) : s.trunc v = v := by
  unfold State.trunc State.xlen; rw [h]; simp [xlenBits]

/-- On RV32 the container keeps the low 32 bits. -/
theorem State.trunc_rv32 (s : State) (h : s.cfg.xlen = .rv32) (v : XWord) :
    s.trunc v = (v.setWidth 32).setWidth 64 := by
  unfold State.trunc State.xlen; rw [h]; rfl

/-- A register other than x0 reads as the value written to it, cut to XLEN. -/
theorem State.readX_writeX_self (s : State) {r : Reg} (v : XWord) (h : r ≠ 0) :
    (s.writeX r v).readX r = s.trunc v := by
  unfold State.readX
  rw [if_neg h, State.trunc_congr (s := s) (s.writeX_cfg r v)]
  simp only [State.writeX_x s v h]
  simp

/-- A write leaves every other x register as it reads. -/
theorem State.readX_writeX_of_ne (s : State) {r q : Reg} (v : XWord) (h : q ≠ r) :
    (s.writeX r v).readX q = s.readX q := by
  by_cases hr : r = 0
  · subst hr; rfl
  · unfold State.readX
    rw [State.trunc_congr (s := s) (s.writeX_cfg r v)]
    simp only [State.writeX_x s v hr]
    rw [Vector.getElem_set_ne]
    intro e
    exact h (BitVec.eq_of_toNat_eq e.symm)

/-- An f register reads as the value written to it, cut to FLEN. -/
theorem State.readF_writeF_self (s : State) (r : Reg) (v : FWord) : (s.writeF r v).readF r = s.truncF (s.truncF v) := by
  unfold State.readF
  rw [State.truncF_congr (s := s) (s.writeF_cfg r v)]
  simp

/-- A write leaves every other f register as it reads. -/
theorem State.readF_writeF_of_ne (s : State) {r q : Reg} (v : FWord) (h : q ≠ r) :
    (s.writeF r v).readF q = s.readF q := by
  unfold State.readF
  rw [State.truncF_congr (s := s) (s.writeF_cfg r v)]
  simp only [State.writeF_f]
  rw [Vector.getElem_set_ne]
  intro e
  exact h (BitVec.eq_of_toNat_eq e.symm)

end Sys2Proof.Machine
end

