-- ==== Sys2Proof/Tests/Slice0.lean ====
section
/-!
SUPPORT. Our own tests. Expected values are the spec's: the examples of files 41 to 48, the tables of
95_test_vectors.md and the encoding tables of 30_encoding.md; each group names its source.
-/

open Sys2Proof Sys2Proof.Machine

namespace Sys2Proof.Tests

set_option Elab.async false

/-! ## Small states -/

/-- A configuration with one word of program text at 0x1000 and plain memory at 0x2000. -/
def cfg (xl : Xlen) (e : ExtSet) (mis : Misaligned := .trap) : Config :=
  { resetConfig with
    xlen := xl, ext := e, misaligned := mis, regions := [⟨0x1000, 4⟩, ⟨0x2000, 64⟩], progBase := 0x1000,
    progEnd := 0x1004 }

/-- A state at the text's start with values in registers 1 to 3 of both files. -/
def st (c : Config) (f1 f2 f3 : Nat) (x1 x2 x3 : Nat) : State :=
  { State.reset with
    cfg := c, pc := 0x1000
    f := (((Vector.replicate 32 0).set 1 (BitVec.ofNat 128 f1)).set 2 (BitVec.ofNat 128 f2)).set 3 (BitVec.ofNat 128 f3)
    x := (((Vector.replicate 32 0).set 1 (BitVec.ofNat 64 x1)).set 2 (BitVec.ofNat 64 x2)).set 3 (BitVec.ofNat 64 x3) }

/-- The next state, if there is one. -/
def nextOf : Outcome → Option State
  | .next t => some t
  | .fault _ => none
  | .refused _ => none

/-- The fault, if there is one. -/
def faultOf : Outcome → Option Fault
  | .next _ => none
  | .fault r => some r
  | .refused _ => none

/-- The refusal, if there is one. -/
def refusalOf : Outcome → Option Refusal
  | .next _ => none
  | .fault _ => none
  | .refused r => some r

/-- A state that an outcome answers is its next state. -/
theorem next_of {o : Outcome} (h : (nextOf o).isSome = true) : ∃ t, o = .next t := by
  cases o with
  | next t => exact ⟨t, rfl⟩
  | fault _ => cases h
  | refused _ => cases h

/-- The f registers file of a reset configuration of an XLEN. -/
def full (xl : Xlen) : Config := cfg xl resetExt

/-- f4 and fflags after an instruction on f1 to f3. -/
def toF (xl : Xlen) (i : Instr) (a b c : Nat) (r : Nat) (fl : FlagSet) : Bool :=
  (nextOf (exec i (st (full xl) a b c 0 0 0))).map (fun t => ((t.readF 4).toNat, t.fflags)) == some (r, fl)

/-- x4 and fflags after an instruction on f1 to f3. -/
def toX (xl : Xlen) (i : Instr) (a b c : Nat) (r : Nat) (fl : FlagSet) : Bool :=
  (nextOf (exec i (st (full xl) a b c 0 0 0))).map (fun t => ((t.readX 4).toNat, t.fflags)) == some (r, fl)

/-- f4 and fflags after an instruction on x1 and x2. -/
def fromX (xl : Xlen) (i : Instr) (a b : Nat) (r : Nat) (fl : FlagSet) : Bool :=
  (nextOf (exec i (st (full xl) 0 0 0 a b 0))).map (fun t => ((t.readF 4).toNat, t.fflags)) == some (r, fl)

/-- A half, a single or a double boxed in 128 bits. -/
def bh (v : Nat) : Nat := 0xffffffffffffffffffffffffffff0000 + v
def bs (v : Nat) : Nat := 0xffffffffffffffffffffffff00000000 + v
def bd (v : Nat) : Nat := 0xffffffffffffffff0000000000000000 + v

/-! ## Well-formedness: each check refuses an ill-formed term -/

theorem test_wf_d_needs_f : ({ d := true } : ExtSet).dNeedsF = false ∧ ({ d := true } : ExtSet).wf = false := by decide

theorem test_wf_q_needs_d : ({ f := true, q := true } : ExtSet).qNeedsD = false ∧ ({ f := true, q := true } : ExtSet).wf = false := by decide

theorem test_wf_zfh_needs_f : ({ zfh := true } : ExtSet).zfhNeedsF = false ∧ ({ zfh := true } : ExtSet).wf = false := by decide

theorem test_wf_zfhmin_needs_f : ({ zfhmin := true } : ExtSet).zfhminNeedsF = false ∧ ({ zfhmin := true } : ExtSet).wf = false := by decide

theorem test_wf_zfa_needs_f : ({ zfa := true } : ExtSet).zfaNeedsF = false ∧ ({ zfa := true } : ExtSet).wf = false := by decide

theorem test_wf_zfbfmin_needs_f : ({ zfbfmin := true } : ExtSet).zfbfminNeedsF = false ∧ ({ zfbfmin := true } : ExtSet).wf = false := by decide

theorem test_wf_zdinx_needs_zfinx : ({ zdinx := true } : ExtSet).zdinxNeedsZfinx = false ∧ ({ zdinx := true } : ExtSet).wf = false := by decide

theorem test_wf_zhinx_needs_zfinx : ({ zhinx := true } : ExtSet).zhinxNeedsZfinx = false ∧ ({ zhinx := true } : ExtSet).wf = false := by decide

theorem test_wf_zhinxmin_needs_zfinx : ({ zhinxmin := true } : ExtSet).zhinxminNeedsZfinx = false ∧ ({ zhinxmin := true } : ExtSet).wf = false := by decide

theorem test_wf_families_exclude : ({ f := true, zfinx := true } : ExtSet).familiesExclude = false ∧ ({ f := true, zfinx := true } : ExtSet).wf = false := by decide

theorem test_wf_text_misaligned_base : ({ resetConfig with progBase := 2, progEnd := 4 } : Config).textWf = false := by decide

theorem test_wf_text_misaligned_end : ({ resetConfig with progEnd := 6 } : Config).textWf = false := by decide

theorem test_wf_text_reversed : ({ resetConfig with progBase := 8, progEnd := 4 } : Config).wf = false := by decide

theorem test_wf_text_beyond_space :
    ({ resetConfig with xlen := .rv32, progEnd := 0x100000004 } : Config).wf = false := by decide +kernel

/-- The text [0, 2^XLEN) has no end that is not its start; a text that ends at 2^XLEN and starts later has one. -/
theorem test_wf_text_whole_space :
    ({ resetConfig with xlen := .rv32, progEnd := 0x100000000 } : Config).textWf = false ∧
    ({ resetConfig with xlen := .rv64, progEnd := 0x10000000000000000 } : Config).textWf = false ∧
    ({ resetConfig with xlen := .rv32, progBase := 4, progEnd := 0x100000000 } : Config).textWf = true := by decide +kernel

theorem test_wf_config_accepts : (full .rv64).wf = true ∧ (full .rv32).wf = true := by decide +kernel

theorem test_wf_rm_reserved : (Instr.faddS 1 2 3 5).wf = false ∧ (Instr.fcvtDS 1 2 6).wf = false ∧
    (Instr.faddS 1 2 3 7).wf = true := by decide

theorem test_wf_csr_out_of_scope : (Instr.csrrw 1 0x300 2).wf = false ∧ (Instr.csrrw 1 0x003 2).wf = true := by decide

/-! ## Decoding: every constructor's word, its fields in the order of 30_encoding.md R92 to R96 -/

theorem test_decode_f : ∀ p ∈ ([
    (0b100110100101_10010_010_01001_0000111#32, .flw 9 18 0x9a5),
    (0b1001101_00101_10010_010_00101_0100111#32, .fsw 5 18 0x9a5),
    (0b00000_00_00101_10010_011_01001_1010011#32, .faddS 9 18 5 3),
    (0b00001_00_00101_10010_011_01001_1010011#32, .fsubS 9 18 5 3),
    (0b00010_00_00101_10010_011_01001_1010011#32, .fmulS 9 18 5 3),
    (0b00011_00_00101_10010_011_01001_1010011#32, .fdivS 9 18 5 3),
    (0b01011_00_00000_10010_011_01001_1010011#32, .fsqrtS 9 18 3),
    (0b00101_00_00101_10010_000_01001_1010011#32, .fminS 9 18 5),
    (0b00101_00_00101_10010_001_01001_1010011#32, .fmaxS 9 18 5),
    (0b11011_00_00101_10010_011_01001_1000011#32, .fmaddS 9 18 5 27 3),
    (0b11011_00_00101_10010_011_01001_1000111#32, .fmsubS 9 18 5 27 3),
    (0b11011_00_00101_10010_011_01001_1001011#32, .fnmsubS 9 18 5 27 3),
    (0b11011_00_00101_10010_011_01001_1001111#32, .fnmaddS 9 18 5 27 3),
    (0b11000_00_00000_10010_011_01001_1010011#32, .fcvtWS 9 18 3),
    (0b11000_00_00001_10010_011_01001_1010011#32, .fcvtWuS 9 18 3),
    (0b11000_00_00010_10010_011_01001_1010011#32, .fcvtLS 9 18 3),
    (0b11000_00_00011_10010_011_01001_1010011#32, .fcvtLuS 9 18 3),
    (0b11010_00_00000_10010_011_01001_1010011#32, .fcvtSW 9 18 3),
    (0b11010_00_00001_10010_011_01001_1010011#32, .fcvtSWu 9 18 3),
    (0b11010_00_00010_10010_011_01001_1010011#32, .fcvtSL 9 18 3),
    (0b11010_00_00011_10010_011_01001_1010011#32, .fcvtSLu 9 18 3),
    (0b00100_00_00101_10010_000_01001_1010011#32, .fsgnjS 9 18 5),
    (0b00100_00_00101_10010_001_01001_1010011#32, .fsgnjnS 9 18 5),
    (0b00100_00_00101_10010_010_01001_1010011#32, .fsgnjxS 9 18 5),
    (0b11100_00_00000_10010_000_01001_1010011#32, .fmvXW 9 18),
    (0b11110_00_00000_10010_000_01001_1010011#32, .fmvWX 9 18),
    (0b10100_00_00101_10010_010_01001_1010011#32, .feqS 9 18 5),
    (0b10100_00_00101_10010_001_01001_1010011#32, .fltS 9 18 5),
    (0b10100_00_00101_10010_000_01001_1010011#32, .fleS 9 18 5),
    (0b11100_00_00000_10010_001_01001_1010011#32, .fclassS 9 18)] : List (Word × Instr)),
    decode p.1 = .instr p.2 := by decide +kernel

theorem test_decode_d : ∀ p ∈ ([
    (0b100110100101_10010_011_01001_0000111#32, .fld 9 18 0x9a5),
    (0b1001101_00101_10010_011_00101_0100111#32, .fsd 5 18 0x9a5),
    (0b00000_01_00101_10010_011_01001_1010011#32, .faddD 9 18 5 3),
    (0b00001_01_00101_10010_011_01001_1010011#32, .fsubD 9 18 5 3),
    (0b00010_01_00101_10010_011_01001_1010011#32, .fmulD 9 18 5 3),
    (0b00011_01_00101_10010_011_01001_1010011#32, .fdivD 9 18 5 3),
    (0b01011_01_00000_10010_011_01001_1010011#32, .fsqrtD 9 18 3),
    (0b00101_01_00101_10010_000_01001_1010011#32, .fminD 9 18 5),
    (0b00101_01_00101_10010_001_01001_1010011#32, .fmaxD 9 18 5),
    (0b11011_01_00101_10010_011_01001_1000011#32, .fmaddD 9 18 5 27 3),
    (0b11011_01_00101_10010_011_01001_1000111#32, .fmsubD 9 18 5 27 3),
    (0b11011_01_00101_10010_011_01001_1001011#32, .fnmsubD 9 18 5 27 3),
    (0b11011_01_00101_10010_011_01001_1001111#32, .fnmaddD 9 18 5 27 3),
    (0b11000_01_00000_10010_011_01001_1010011#32, .fcvtWD 9 18 3),
    (0b11000_01_00001_10010_011_01001_1010011#32, .fcvtWuD 9 18 3),
    (0b11000_01_00010_10010_011_01001_1010011#32, .fcvtLD 9 18 3),
    (0b11000_01_00011_10010_011_01001_1010011#32, .fcvtLuD 9 18 3),
    (0b11010_01_00000_10010_011_01001_1010011#32, .fcvtDW 9 18 3),
    (0b11010_01_00001_10010_011_01001_1010011#32, .fcvtDWu 9 18 3),
    (0b11010_01_00010_10010_011_01001_1010011#32, .fcvtDL 9 18 3),
    (0b11010_01_00011_10010_011_01001_1010011#32, .fcvtDLu 9 18 3),
    (0b01000_00_00001_10010_011_01001_1010011#32, .fcvtSD 9 18 3),
    (0b01000_01_00000_10010_011_01001_1010011#32, .fcvtDS 9 18 3),
    (0b00100_01_00101_10010_000_01001_1010011#32, .fsgnjD 9 18 5),
    (0b00100_01_00101_10010_001_01001_1010011#32, .fsgnjnD 9 18 5),
    (0b00100_01_00101_10010_010_01001_1010011#32, .fsgnjxD 9 18 5),
    (0b11100_01_00000_10010_000_01001_1010011#32, .fmvXD 9 18),
    (0b11110_01_00000_10010_000_01001_1010011#32, .fmvDX 9 18),
    (0b10100_01_00101_10010_010_01001_1010011#32, .feqD 9 18 5),
    (0b10100_01_00101_10010_001_01001_1010011#32, .fltD 9 18 5),
    (0b10100_01_00101_10010_000_01001_1010011#32, .fleD 9 18 5),
    (0b11100_01_00000_10010_001_01001_1010011#32, .fclassD 9 18)] : List (Word × Instr)),
    decode p.1 = .instr p.2 := by decide +kernel

theorem test_decode_q : ∀ p ∈ ([
    (0b100110100101_10010_100_01001_0000111#32, .flq 9 18 0x9a5),
    (0b1001101_00101_10010_100_00101_0100111#32, .fsq 5 18 0x9a5),
    (0b00000_11_00101_10010_011_01001_1010011#32, .faddQ 9 18 5 3),
    (0b00001_11_00101_10010_011_01001_1010011#32, .fsubQ 9 18 5 3),
    (0b00010_11_00101_10010_011_01001_1010011#32, .fmulQ 9 18 5 3),
    (0b00011_11_00101_10010_011_01001_1010011#32, .fdivQ 9 18 5 3),
    (0b01011_11_00000_10010_011_01001_1010011#32, .fsqrtQ 9 18 3),
    (0b00101_11_00101_10010_000_01001_1010011#32, .fminQ 9 18 5),
    (0b00101_11_00101_10010_001_01001_1010011#32, .fmaxQ 9 18 5),
    (0b11011_11_00101_10010_011_01001_1000011#32, .fmaddQ 9 18 5 27 3),
    (0b11011_11_00101_10010_011_01001_1000111#32, .fmsubQ 9 18 5 27 3),
    (0b11011_11_00101_10010_011_01001_1001011#32, .fnmsubQ 9 18 5 27 3),
    (0b11011_11_00101_10010_011_01001_1001111#32, .fnmaddQ 9 18 5 27 3),
    (0b11000_11_00000_10010_011_01001_1010011#32, .fcvtWQ 9 18 3),
    (0b11000_11_00001_10010_011_01001_1010011#32, .fcvtWuQ 9 18 3),
    (0b11000_11_00010_10010_011_01001_1010011#32, .fcvtLQ 9 18 3),
    (0b11000_11_00011_10010_011_01001_1010011#32, .fcvtLuQ 9 18 3),
    (0b11010_11_00000_10010_011_01001_1010011#32, .fcvtQW 9 18 3),
    (0b11010_11_00001_10010_011_01001_1010011#32, .fcvtQWu 9 18 3),
    (0b11010_11_00010_10010_011_01001_1010011#32, .fcvtQL 9 18 3),
    (0b11010_11_00011_10010_011_01001_1010011#32, .fcvtQLu 9 18 3),
    (0b01000_00_00011_10010_011_01001_1010011#32, .fcvtSQ 9 18 3),
    (0b01000_11_00000_10010_011_01001_1010011#32, .fcvtQS 9 18 3),
    (0b01000_01_00011_10010_011_01001_1010011#32, .fcvtDQ 9 18 3),
    (0b01000_11_00001_10010_011_01001_1010011#32, .fcvtQD 9 18 3),
    (0b00100_11_00101_10010_000_01001_1010011#32, .fsgnjQ 9 18 5),
    (0b00100_11_00101_10010_001_01001_1010011#32, .fsgnjnQ 9 18 5),
    (0b00100_11_00101_10010_010_01001_1010011#32, .fsgnjxQ 9 18 5),
    (0b10100_11_00101_10010_010_01001_1010011#32, .feqQ 9 18 5),
    (0b10100_11_00101_10010_001_01001_1010011#32, .fltQ 9 18 5),
    (0b10100_11_00101_10010_000_01001_1010011#32, .fleQ 9 18 5),
    (0b11100_11_00000_10010_001_01001_1010011#32, .fclassQ 9 18)] : List (Word × Instr)),
    decode p.1 = .instr p.2 := by decide +kernel

theorem test_decode_h : ∀ p ∈ ([
    (0b100110100101_10010_001_01001_0000111#32, .flh 9 18 0x9a5),
    (0b1001101_00101_10010_001_00101_0100111#32, .fsh 5 18 0x9a5),
    (0b00000_10_00101_10010_011_01001_1010011#32, .faddH 9 18 5 3),
    (0b00001_10_00101_10010_011_01001_1010011#32, .fsubH 9 18 5 3),
    (0b00010_10_00101_10010_011_01001_1010011#32, .fmulH 9 18 5 3),
    (0b00011_10_00101_10010_011_01001_1010011#32, .fdivH 9 18 5 3),
    (0b01011_10_00000_10010_011_01001_1010011#32, .fsqrtH 9 18 3),
    (0b00101_10_00101_10010_000_01001_1010011#32, .fminH 9 18 5),
    (0b00101_10_00101_10010_001_01001_1010011#32, .fmaxH 9 18 5),
    (0b11011_10_00101_10010_011_01001_1000011#32, .fmaddH 9 18 5 27 3),
    (0b11011_10_00101_10010_011_01001_1000111#32, .fmsubH 9 18 5 27 3),
    (0b11011_10_00101_10010_011_01001_1001011#32, .fnmsubH 9 18 5 27 3),
    (0b11011_10_00101_10010_011_01001_1001111#32, .fnmaddH 9 18 5 27 3),
    (0b11000_10_00000_10010_011_01001_1010011#32, .fcvtWH 9 18 3),
    (0b11000_10_00001_10010_011_01001_1010011#32, .fcvtWuH 9 18 3),
    (0b11000_10_00010_10010_011_01001_1010011#32, .fcvtLH 9 18 3),
    (0b11000_10_00011_10010_011_01001_1010011#32, .fcvtLuH 9 18 3),
    (0b11010_10_00000_10010_011_01001_1010011#32, .fcvtHW 9 18 3),
    (0b11010_10_00001_10010_011_01001_1010011#32, .fcvtHWu 9 18 3),
    (0b11010_10_00010_10010_011_01001_1010011#32, .fcvtHL 9 18 3),
    (0b11010_10_00011_10010_011_01001_1010011#32, .fcvtHLu 9 18 3),
    (0b01000_00_00010_10010_011_01001_1010011#32, .fcvtSH 9 18 3),
    (0b01000_10_00000_10010_011_01001_1010011#32, .fcvtHS 9 18 3),
    (0b01000_01_00010_10010_011_01001_1010011#32, .fcvtDH 9 18 3),
    (0b01000_10_00001_10010_011_01001_1010011#32, .fcvtHD 9 18 3),
    (0b01000_11_00010_10010_011_01001_1010011#32, .fcvtQH 9 18 3),
    (0b01000_10_00011_10010_011_01001_1010011#32, .fcvtHQ 9 18 3),
    (0b00100_10_00101_10010_000_01001_1010011#32, .fsgnjH 9 18 5),
    (0b00100_10_00101_10010_001_01001_1010011#32, .fsgnjnH 9 18 5),
    (0b00100_10_00101_10010_010_01001_1010011#32, .fsgnjxH 9 18 5),
    (0b11100_10_00000_10010_000_01001_1010011#32, .fmvXH 9 18),
    (0b11110_10_00000_10010_000_01001_1010011#32, .fmvHX 9 18),
    (0b10100_10_00101_10010_010_01001_1010011#32, .feqH 9 18 5),
    (0b10100_10_00101_10010_001_01001_1010011#32, .fltH 9 18 5),
    (0b10100_10_00101_10010_000_01001_1010011#32, .fleH 9 18 5),
    (0b11100_10_00000_10010_001_01001_1010011#32, .fclassH 9 18)] : List (Word × Instr)),
    decode p.1 = .instr p.2 := by decide +kernel

theorem test_decode_zfa : ∀ p ∈ ([
    (0b11110_00_00001_01101_000_01001_1010011#32, .fliS 9 13),
    (0b11110_01_00001_01101_000_01001_1010011#32, .fliD 9 13),
    (0b11110_10_00001_01101_000_01001_1010011#32, .fliH 9 13),
    (0b11110_11_00001_01101_000_01001_1010011#32, .fliQ 9 13),
    (0b00101_00_00101_10010_010_01001_1010011#32, .fminmS 9 18 5),
    (0b00101_00_00101_10010_011_01001_1010011#32, .fmaxmS 9 18 5),
    (0b00101_01_00101_10010_010_01001_1010011#32, .fminmD 9 18 5),
    (0b00101_01_00101_10010_011_01001_1010011#32, .fmaxmD 9 18 5),
    (0b00101_10_00101_10010_010_01001_1010011#32, .fminmH 9 18 5),
    (0b00101_10_00101_10010_011_01001_1010011#32, .fmaxmH 9 18 5),
    (0b00101_11_00101_10010_010_01001_1010011#32, .fminmQ 9 18 5),
    (0b00101_11_00101_10010_011_01001_1010011#32, .fmaxmQ 9 18 5),
    (0b01000_00_00100_10010_011_01001_1010011#32, .froundS 9 18 3),
    (0b01000_00_00101_10010_011_01001_1010011#32, .froundnxS 9 18 3),
    (0b01000_01_00100_10010_011_01001_1010011#32, .froundD 9 18 3),
    (0b01000_01_00101_10010_011_01001_1010011#32, .froundnxD 9 18 3),
    (0b01000_10_00100_10010_011_01001_1010011#32, .froundH 9 18 3),
    (0b01000_10_00101_10010_011_01001_1010011#32, .froundnxH 9 18 3),
    (0b01000_11_00100_10010_011_01001_1010011#32, .froundQ 9 18 3),
    (0b01000_11_00101_10010_011_01001_1010011#32, .froundnxQ 9 18 3),
    (0b11000_01_01000_10010_001_01001_1010011#32, .fcvtmodWD 9 18),
    (0b11100_01_00001_10010_000_01001_1010011#32, .fmvhXD 9 18),
    (0b10110_01_00101_10010_000_01001_1010011#32, .fmvpDX 9 18 5),
    (0b11100_11_00001_10010_000_01001_1010011#32, .fmvhXQ 9 18),
    (0b10110_11_00101_10010_000_01001_1010011#32, .fmvpQX 9 18 5),
    (0b10100_00_00101_10010_100_01001_1010011#32, .fleqS 9 18 5),
    (0b10100_00_00101_10010_101_01001_1010011#32, .fltqS 9 18 5),
    (0b10100_01_00101_10010_100_01001_1010011#32, .fleqD 9 18 5),
    (0b10100_01_00101_10010_101_01001_1010011#32, .fltqD 9 18 5),
    (0b10100_10_00101_10010_100_01001_1010011#32, .fleqH 9 18 5),
    (0b10100_10_00101_10010_101_01001_1010011#32, .fltqH 9 18 5),
    (0b10100_11_00101_10010_100_01001_1010011#32, .fleqQ 9 18 5),
    (0b10100_11_00101_10010_101_01001_1010011#32, .fltqQ 9 18 5)] : List (Word × Instr)),
    decode p.1 = .instr p.2 := by decide +kernel

theorem test_decode_bf16 : ∀ p ∈ ([
    (0b01000_10_01000_10010_011_01001_1010011#32, .fcvtBf16S 9 18 3),
    (0b01000_00_00110_10010_011_01001_1010011#32, .fcvtSBf16 9 18 3)] : List (Word × Instr)),
    decode p.1 = .instr p.2 := by decide +kernel

theorem test_decode_csr : ∀ p ∈ ([
    (0b000000000010_10010_001_01001_1110011#32, .csrrw 9 2 18),
    (0b000000000010_10010_010_01001_1110011#32, .csrrs 9 2 18),
    (0b000000000010_10010_011_01001_1110011#32, .csrrc 9 2 18),
    (0b000000000010_10101_101_01001_1110011#32, .csrrwi 9 2 21),
    (0b000000000010_10101_110_01001_1110011#32, .csrrsi 9 2 21),
    (0b000000000010_10101_111_01001_1110011#32, .csrrci 9 2 21)] : List (Word × Instr)),
    decode p.1 = .instr p.2 := by decide +kernel

/-- The examples of 95_test_vectors.md section 2.13: bits 31:0 as the hardware stores them. -/
theorem test_decode_table_word : decodeTableWord 32 0x003100d3 = some (.faddS 1 2 3 0) ∧
    decodeTableWord 32 0x0002a087 = some (.flw 1 5 0) ∧ decodeTableWord 32 0x00000033 = none := by decide +kernel

/-! ## Results: one example of the spec for each computing instruction (files 41 to 46, 95_test_vectors.md) -/

/-- Examples of the rules of FADD.S, FSUB.S, FMUL.S, FDIV.S, FSQRT.S. -/
theorem test_f_arith : ([
    toF .rv64 (.faddS 4 1 2 0) (bs 0x3f800000) (bs 0x33800000) 0 (bs 0x3f800000) 0b00001#5,
    toF .rv64 (.fsubS 4 1 2 0) (bs 0x7f800000) (bs 0x7f800000) 0 (bs 0x7fc00000) 0b10000#5,
    toF .rv64 (.fmulS 4 1 2 0) (bs 0x7f800000) (bs 0x0) 0 (bs 0x7fc00000) 0b10000#5,
    toF .rv64 (.fdivS 4 1 2 0) (bs 0x3f800000) (bs 0x40400000) 0 (bs 0x3eaaaaab) 0b00001#5,
    toF .rv64 (.fsqrtS 4 1 0) (bs 0x40000000) 0 0 (bs 0x3fb504f3) 0b00001#5] : List Bool).all id = true := by decide +kernel

/-- Examples of the rules of FMADD.S, FMSUB.S, FNMSUB.S, FNMADD.S. -/
theorem test_f_fused : ([
    toF .rv64 (.fmaddS 4 1 2 3 0) (bs 0x7f800000) (bs 0x0) (bs 0x7fc00001) (bs 0x7fc00000) 0b10000#5,
    toF .rv64 (.fmsubS 4 1 2 3 0) (bs 0x7f800000) (bs 0x0) (bs 0x7fc00001) (bs 0x7fc00000) 0b10000#5,
    toF .rv64 (.fnmsubS 4 1 2 3 0) (bs 0x7f800000) (bs 0x0) (bs 0x7fc00001) (bs 0x7fc00000) 0b10000#5,
    toF .rv64 (.fnmaddS 4 1 2 3 0) (bs 0x7f800000) (bs 0x0) (bs 0x7fc00001) (bs 0x7fc00000) 0b10000#5] : List Bool).all id = true := by decide +kernel

/-- Examples of the rules of FMIN.S, FMAX.S, FSGNJ.S, FSGNJN.S, FSGNJX.S. -/
theorem test_f_sign_minmax : ([
    toF .rv64 (.fminS 4 1 2) (bs 0x3f800000) (bs 0x7f800001) 0 (bs 0x3f800000) 0b10000#5,
    toF .rv64 (.fmaxS 4 1 2) (bs 0x3f800000) (bs 0x7f800001) 0 (bs 0x3f800000) 0b10000#5,
    toF .rv64 (.fsgnjS 4 1 2) (bs 0x3fc00000) (bs 0xc0000000) 0 (bs 0xbfc00000) 0b00000#5,
    toF .rv64 (.fsgnjnS 4 1 2) (bs 0x3fc00000) (bs 0xc0000000) 0 (bs 0x3fc00000) 0b00000#5,
    toF .rv64 (.fsgnjxS 4 1 2) (bs 0x3fc00000) (bs 0xc0000000) 0 (bs 0xbfc00000) 0b00000#5] : List Bool).all id = true := by decide +kernel

/-- Examples of the rules of FEQ.S, FLT.S, FLE.S, FCLASS.S. -/
theorem test_f_compare_class : ([
    toX .rv64 (.feqS 4 1 2) (bs 0x3f800000) (bs 0x7f800001) 0 0x0 0b10000#5,
    toX .rv64 (.fltS 4 1 2) (bs 0x7fc00000) (bs 0x3f800000) 0 0x0 0b10000#5,
    toX .rv64 (.fleS 4 1 2) (bs 0x7fc00000) (bs 0x3f800000) 0 0x0 0b10000#5,
    toX .rv64 (.fclassS 4 1) (bs 0xff800000) 0 0 0x1 0b00000#5] : List Bool).all id = true := by decide +kernel

/-- Examples of the rules of FCVT.W.S, FCVT.WU.S, FCVT.L.S, FCVT.LU.S, FCVT.S.W, FCVT.S.WU, FCVT.S.L, FCVT.S.LU. -/
theorem test_f_convert : ([
    toX .rv32 (.fcvtWS 4 1 0) (bs 0xbfc00000) 0 0 0xfffffffe 0b00001#5,
    toX .rv32 (.fcvtWuS 4 1 0) (bs 0x40200000) 0 0 0x2 0b00001#5,
    toX .rv64 (.fcvtLS 4 1 0) (bs 0xbfc00000) 0 0 0xfffffffffffffffe 0b00001#5,
    toX .rv64 (.fcvtLuS 4 1 0) (bs 0x40200000) 0 0 0x2 0b00001#5,
    fromX .rv64 (.fcvtSW 4 1 0) 0x1000001 0x0 (bs 0x4b800000) 0b00001#5,
    fromX .rv64 (.fcvtSWu 4 1 0) 0xffffffffffffffff 0x0 (bs 0x4f800000) 0b00001#5,
    fromX .rv64 (.fcvtSL 4 1 0) 0x7fffffffffffffff 0x0 (bs 0x5f000000) 0b00001#5,
    fromX .rv64 (.fcvtSLu 4 1 0) 0xffffffffffffffff 0x0 (bs 0x5f800000) 0b00001#5] : List Bool).all id = true := by decide +kernel

/-- Examples of the rules of FADD.D, FSUB.D, FMUL.D, FDIV.D, FSQRT.D. -/
theorem test_d_arith : ([
    toF .rv64 (.faddD 4 1 2 0) (bd 0x3ff0000000000000) (bd 0x3ca0000000000000) 0 (bd 0x3ff0000000000000) 0b00001#5,
    toF .rv64 (.fsubD 4 1 2 0) (bd 0x7ff0000000000000) (bd 0x7ff0000000000000) 0 (bd 0x7ff8000000000000) 0b10000#5,
    toF .rv64 (.fmulD 4 1 2 0) (bd 0x7ff0000000000000) (bd 0x0) 0 (bd 0x7ff8000000000000) 0b10000#5,
    toF .rv64 (.fdivD 4 1 2 0) (bd 0x3ff0000000000000) (bd 0x4008000000000000) 0 (bd 0x3fd5555555555555) 0b00001#5,
    toF .rv64 (.fsqrtD 4 1 0) (bd 0x4000000000000000) 0 0 (bd 0x3ff6a09e667f3bcd) 0b00001#5] : List Bool).all id = true := by decide +kernel

/-- Examples of the rules of FMADD.D, FMSUB.D, FNMSUB.D, FNMADD.D. -/
theorem test_d_fused : ([
    toF .rv64 (.fmaddD 4 1 2 3 0) (bd 0x7ff0000000000000) (bd 0x0) (bd 0x7ff8000000000001) (bd 0x7ff8000000000000) 0b10000#5,
    toF .rv64 (.fmsubD 4 1 2 3 0) (bd 0x7ff0000000000000) (bd 0x0) (bd 0x7ff8000000000001) (bd 0x7ff8000000000000) 0b10000#5,
    toF .rv64 (.fnmsubD 4 1 2 3 0) (bd 0x7ff0000000000000) (bd 0x0) (bd 0x7ff8000000000001) (bd 0x7ff8000000000000) 0b10000#5,
    toF .rv64 (.fnmaddD 4 1 2 3 0) (bd 0x7ff0000000000000) (bd 0x0) (bd 0x7ff8000000000001) (bd 0x7ff8000000000000) 0b10000#5] : List Bool).all id = true := by decide +kernel

/-- Examples of the rules of FMIN.D, FMAX.D, FSGNJ.D, FSGNJN.D, FSGNJX.D. -/
theorem test_d_sign_minmax : ([
    toF .rv64 (.fminD 4 1 2) (bd 0x3ff0000000000000) (bd 0x7ff0000000000001) 0 (bd 0x3ff0000000000000) 0b10000#5,
    toF .rv64 (.fmaxD 4 1 2) (bd 0x3ff0000000000000) (bd 0x7ff0000000000001) 0 (bd 0x3ff0000000000000) 0b10000#5,
    toF .rv64 (.fsgnjD 4 1 2) (bd 0x3ff8000000000000) (bd 0xc000000000000000) 0 (bd 0xbff8000000000000) 0b00000#5,
    toF .rv64 (.fsgnjnD 4 1 2) (bd 0x3ff8000000000000) (bd 0xc000000000000000) 0 (bd 0x3ff8000000000000) 0b00000#5,
    toF .rv64 (.fsgnjxD 4 1 2) (bd 0x3ff8000000000000) (bd 0xc000000000000000) 0 (bd 0xbff8000000000000) 0b00000#5] : List Bool).all id = true := by decide +kernel

/-- Examples of the rules of FEQ.D, FLT.D, FLE.D, FCLASS.D. -/
theorem test_d_compare_class : ([
    toX .rv64 (.feqD 4 1 2) (bd 0x3ff0000000000000) (bd 0x7ff0000000000001) 0 0x0 0b10000#5,
    toX .rv64 (.fltD 4 1 2) (bd 0x7ff8000000000000) (bd 0x3ff0000000000000) 0 0x0 0b10000#5,
    toX .rv64 (.fleD 4 1 2) (bd 0x7ff8000000000000) (bd 0x3ff0000000000000) 0 0x0 0b10000#5,
    toX .rv64 (.fclassD 4 1) (bd 0xfff0000000000000) 0 0 0x1 0b00000#5] : List Bool).all id = true := by decide +kernel

/-- Examples of the rules of FCVT.W.D, FCVT.WU.D, FCVT.L.D, FCVT.LU.D, FCVT.D.W, FCVT.D.WU, FCVT.D.L, FCVT.D.LU, FCVT.S.D, FCVT.D.S. -/
theorem test_d_convert : ([
    toX .rv32 (.fcvtWD 4 1 0) (bd 0xbff8000000000000) 0 0 0xfffffffe 0b00001#5,
    toX .rv32 (.fcvtWuD 4 1 0) (bd 0x4004000000000000) 0 0 0x2 0b00001#5,
    toX .rv64 (.fcvtLD 4 1 0) (bd 0xbff8000000000000) 0 0 0xfffffffffffffffe 0b00001#5,
    toX .rv64 (.fcvtLuD 4 1 0) (bd 0x4004000000000000) 0 0 0x2 0b00001#5,
    fromX .rv64 (.fcvtDW 4 1 0) 0x0 0x0 (bd 0x0) 0b00000#5,
    fromX .rv64 (.fcvtDWu 4 1 0) 0x0 0x0 (bd 0x0) 0b00000#5,
    fromX .rv64 (.fcvtDL 4 1 0) 0x7fffffffffffffff 0x0 (bd 0x43e0000000000000) 0b00001#5,
    fromX .rv64 (.fcvtDLu 4 1 0) 0xffffffffffffffff 0x0 (bd 0x43f0000000000000) 0b00001#5,
    toF .rv64 (.fcvtSD 4 1 0) (bd 0x3fd5555555555555) 0 0 (bs 0x3eaaaaab) 0b00001#5,
    toF .rv64 (.fcvtDS 4 1 0) (bs 0x7f800001) 0 0 (bd 0x7ff8000000000000) 0b10000#5] : List Bool).all id = true := by decide +kernel

/-- Examples of the rules of FADD.Q, FSUB.Q, FMUL.Q, FDIV.Q, FSQRT.Q. -/
theorem test_q_arith : ([
    toF .rv64 (.faddQ 4 1 2 0) 0x3fff0000000000000000000000000000 0x3f8e0000000000000000000000000000 0 0x3fff0000000000000000000000000000 0b00001#5,
    toF .rv64 (.fsubQ 4 1 2 0) 0x7fff0000000000000000000000000000 0x7fff0000000000000000000000000000 0 0x7fff8000000000000000000000000000 0b10000#5,
    toF .rv64 (.fmulQ 4 1 2 0) 0x7fff0000000000000000000000000000 0x0 0 0x7fff8000000000000000000000000000 0b10000#5,
    toF .rv64 (.fdivQ 4 1 2 0) 0x3fff0000000000000000000000000000 0x40008000000000000000000000000000 0 0x3ffd5555555555555555555555555555 0b00001#5,
    toF .rv64 (.fsqrtQ 4 1 0) 0x40000000000000000000000000000000 0 0 0x3fff6a09e667f3bcc908b2fb1366ea95 0b00001#5] : List Bool).all id = true := by decide +kernel

/-- Examples of the rules of FMADD.Q, FMSUB.Q, FNMSUB.Q, FNMADD.Q. -/
theorem test_q_fused : ([
    toF .rv64 (.fmaddQ 4 1 2 3 0) 0x7fff0000000000000000000000000000 0x0 0x7fff8000000000000000000000000001 0x7fff8000000000000000000000000000 0b10000#5,
    toF .rv64 (.fmsubQ 4 1 2 3 0) 0x7fff0000000000000000000000000000 0x0 0x7fff8000000000000000000000000001 0x7fff8000000000000000000000000000 0b10000#5,
    toF .rv64 (.fnmsubQ 4 1 2 3 0) 0x7fff0000000000000000000000000000 0x0 0x7fff8000000000000000000000000001 0x7fff8000000000000000000000000000 0b10000#5,
    toF .rv64 (.fnmaddQ 4 1 2 3 0) 0x7fff0000000000000000000000000000 0x0 0x7fff8000000000000000000000000001 0x7fff8000000000000000000000000000 0b10000#5] : List Bool).all id = true := by decide +kernel

/-- Examples of the rules of FMIN.Q, FMAX.Q, FSGNJ.Q, FSGNJN.Q, FSGNJX.Q. -/
theorem test_q_sign_minmax : ([
    toF .rv64 (.fminQ 4 1 2) 0x3fff0000000000000000000000000000 0x7fff0000000000000000000000000001 0 0x3fff0000000000000000000000000000 0b10000#5,
    toF .rv64 (.fmaxQ 4 1 2) 0x3fff0000000000000000000000000000 0x7fff0000000000000000000000000001 0 0x3fff0000000000000000000000000000 0b10000#5,
    toF .rv64 (.fsgnjQ 4 1 2) 0x3fff8000000000000000000000000000 0xc0000000000000000000000000000000 0 0xbfff8000000000000000000000000000 0b00000#5,
    toF .rv64 (.fsgnjnQ 4 1 2) 0x3fff8000000000000000000000000000 0xc0000000000000000000000000000000 0 0x3fff8000000000000000000000000000 0b00000#5,
    toF .rv64 (.fsgnjxQ 4 1 2) 0x3fff8000000000000000000000000000 0xc0000000000000000000000000000000 0 0xbfff8000000000000000000000000000 0b00000#5] : List Bool).all id = true := by decide +kernel

/-- Examples of the rules of FEQ.Q, FLT.Q, FLE.Q, FCLASS.Q. -/
theorem test_q_compare_class : ([
    toX .rv64 (.feqQ 4 1 2) 0x3fff0000000000000000000000000000 0x7fff0000000000000000000000000001 0 0x0 0b10000#5,
    toX .rv64 (.fltQ 4 1 2) 0x7fff8000000000000000000000000000 0x3fff0000000000000000000000000000 0 0x0 0b10000#5,
    toX .rv64 (.fleQ 4 1 2) 0x7fff8000000000000000000000000000 0x3fff0000000000000000000000000000 0 0x0 0b10000#5,
    toX .rv64 (.fclassQ 4 1) 0xffff0000000000000000000000000000 0 0 0x1 0b00000#5] : List Bool).all id = true := by decide +kernel

/-- Examples of the rules of FCVT.W.Q, FCVT.WU.Q, FCVT.L.Q, FCVT.LU.Q, FCVT.Q.W, FCVT.Q.WU, FCVT.Q.L, FCVT.Q.LU, FCVT.S.Q, FCVT.Q.S, FCVT.D.Q, FCVT.Q.D. -/
theorem test_q_convert : ([
    toX .rv32 (.fcvtWQ 4 1 0) 0xbfff8000000000000000000000000000 0 0 0xfffffffe 0b00001#5,
    toX .rv32 (.fcvtWuQ 4 1 0) 0x40004000000000000000000000000000 0 0 0x2 0b00001#5,
    toX .rv64 (.fcvtLQ 4 1 0) 0xbfff8000000000000000000000000000 0 0 0xfffffffffffffffe 0b00001#5,
    toX .rv64 (.fcvtLuQ 4 1 0) 0x40004000000000000000000000000000 0 0 0x2 0b00001#5,
    fromX .rv64 (.fcvtQW 4 1 0) 0xffffffffffffffff 0x0 0xbfff0000000000000000000000000000 0b00000#5,
    fromX .rv64 (.fcvtQWu 4 1 0) 0xffffffffffffffff 0x0 0x401efffffffe00000000000000000000 0b00000#5,
    fromX .rv64 (.fcvtQL 4 1 0) 0xffffffffffffffff 0x0 0xbfff0000000000000000000000000000 0b00000#5,
    fromX .rv64 (.fcvtQLu 4 1 0) 0xffffffffffffffff 0x0 0x403efffffffffffffffe000000000000 0b00000#5,
    toF .rv64 (.fcvtSQ 4 1 0) 0x3ffd5555555555555555555555555555 0 0 (bs 0x3eaaaaab) 0b00001#5,
    toF .rv64 (.fcvtQS 4 1 0) (bs 0x7f800001) 0 0 0x7fff8000000000000000000000000000 0b10000#5,
    toF .rv64 (.fcvtDQ 4 1 0) 0x3ffd5555555555555555555555555555 0 0 (bd 0x3fd5555555555555) 0b00001#5,
    toF .rv64 (.fcvtQD 4 1 0) (bd 0x7ff0000000000001) 0 0 0x7fff8000000000000000000000000000 0b10000#5] : List Bool).all id = true := by decide +kernel

/-- Examples of the rules of FADD.H, FSUB.H, FMUL.H, FDIV.H, FSQRT.H. -/
theorem test_h_arith : ([
    toF .rv64 (.faddH 4 1 2 0) (bh 0x3c00) (bh 0x1000) 0 (bh 0x3c00) 0b00001#5,
    toF .rv64 (.fsubH 4 1 2 0) (bh 0x7c00) (bh 0x7c00) 0 (bh 0x7e00) 0b10000#5,
    toF .rv64 (.fmulH 4 1 2 0) (bh 0x7c00) (bh 0x0) 0 (bh 0x7e00) 0b10000#5,
    toF .rv64 (.fdivH 4 1 2 0) (bh 0x3c00) (bh 0x4200) 0 (bh 0x3555) 0b00001#5,
    toF .rv64 (.fsqrtH 4 1 0) (bh 0x4000) 0 0 (bh 0x3da8) 0b00001#5] : List Bool).all id = true := by decide +kernel

/-- Examples of the rules of FMADD.H, FMSUB.H, FNMSUB.H, FNMADD.H. -/
theorem test_h_fused : ([
    toF .rv64 (.fmaddH 4 1 2 3 0) (bh 0x7c00) (bh 0x0) (bh 0x7e01) (bh 0x7e00) 0b10000#5,
    toF .rv64 (.fmsubH 4 1 2 3 0) (bh 0x7c00) (bh 0x0) (bh 0x7e01) (bh 0x7e00) 0b10000#5,
    toF .rv64 (.fnmsubH 4 1 2 3 0) (bh 0x7c00) (bh 0x0) (bh 0x7e01) (bh 0x7e00) 0b10000#5,
    toF .rv64 (.fnmaddH 4 1 2 3 0) (bh 0x7c00) (bh 0x0) (bh 0x7e01) (bh 0x7e00) 0b10000#5] : List Bool).all id = true := by decide +kernel

/-- Examples of the rules of FMIN.H, FMAX.H, FSGNJ.H, FSGNJN.H, FSGNJX.H. -/
theorem test_h_sign_minmax : ([
    toF .rv64 (.fminH 4 1 2) (bh 0x3c00) (bh 0x7c01) 0 (bh 0x3c00) 0b10000#5,
    toF .rv64 (.fmaxH 4 1 2) (bh 0x3c00) (bh 0x7c01) 0 (bh 0x3c00) 0b10000#5,
    toF .rv64 (.fsgnjH 4 1 2) (bh 0x3e00) (bh 0xc000) 0 (bh 0xbe00) 0b00000#5,
    toF .rv64 (.fsgnjnH 4 1 2) (bh 0x3e00) (bh 0xc000) 0 (bh 0x3e00) 0b00000#5,
    toF .rv64 (.fsgnjxH 4 1 2) (bh 0x3e00) (bh 0xc000) 0 (bh 0xbe00) 0b00000#5] : List Bool).all id = true := by decide +kernel

/-- Examples of the rules of FEQ.H, FLT.H, FLE.H, FCLASS.H. -/
theorem test_h_compare_class : ([
    toX .rv64 (.feqH 4 1 2) (bh 0x3c00) (bh 0x7c01) 0 0x0 0b10000#5,
    toX .rv64 (.fltH 4 1 2) (bh 0x7e00) (bh 0x3c00) 0 0x0 0b10000#5,
    toX .rv64 (.fleH 4 1 2) (bh 0x7e00) (bh 0x3c00) 0 0x0 0b10000#5,
    toX .rv64 (.fclassH 4 1) (bh 0xfc00) 0 0 0x1 0b00000#5] : List Bool).all id = true := by decide +kernel

/-- Examples of the rules of FCVT.W.H, FCVT.WU.H, FCVT.L.H, FCVT.LU.H, FCVT.H.W, FCVT.H.WU, FCVT.H.L, FCVT.H.LU, FCVT.S.H, FCVT.H.S, FCVT.D.H, FCVT.H.D, FCVT.Q.H, FCVT.H.Q. -/
theorem test_h_convert : ([
    toX .rv32 (.fcvtWH 4 1 0) (bh 0xbe00) 0 0 0xfffffffe 0b00001#5,
    toX .rv32 (.fcvtWuH 4 1 0) (bh 0x4100) 0 0 0x2 0b00001#5,
    toX .rv64 (.fcvtLH 4 1 0) (bh 0xbe00) 0 0 0xfffffffffffffffe 0b00001#5,
    toX .rv64 (.fcvtLuH 4 1 0) (bh 0x4100) 0 0 0x2 0b00001#5,
    fromX .rv64 (.fcvtHW 4 1 0) 0x1000001 0x0 (bh 0x7c00) 0b00101#5,
    fromX .rv64 (.fcvtHWu 4 1 0) 0xffffffffffffffff 0x0 (bh 0x7c00) 0b00101#5,
    fromX .rv64 (.fcvtHL 4 1 0) 0x7fffffffffffffff 0x0 (bh 0x7c00) 0b00101#5,
    fromX .rv64 (.fcvtHLu 4 1 0) 0xffffffffffffffff 0x0 (bh 0x7c00) 0b00101#5,
    toF .rv64 (.fcvtSH 4 1 0) (bh 0x7c01) 0 0 (bs 0x7fc00000) 0b10000#5,
    toF .rv64 (.fcvtHS 4 1 0) (bs 0x3eaaaaab) 0 0 (bh 0x3555) 0b00001#5,
    toF .rv64 (.fcvtDH 4 1 0) (bh 0x7c01) 0 0 (bd 0x7ff8000000000000) 0b10000#5,
    toF .rv64 (.fcvtHD 4 1 0) (bd 0x3fd5555555555555) 0 0 (bh 0x3555) 0b00001#5,
    toF .rv64 (.fcvtQH 4 1 0) (bh 0x7c01) 0 0 0x7fff8000000000000000000000000000 0b10000#5,
    toF .rv64 (.fcvtHQ 4 1 0) 0x3ffd5555555555555555555555555555 0 0 (bh 0x3555) 0b00001#5] : List Bool).all id = true := by decide +kernel

/-- Examples of the rules of FMINM.S, FMAXM.S, FMINM.D, FMAXM.D, FMINM.H, FMAXM.H, FMINM.Q, FMAXM.Q. -/
theorem test_zfa_sign_minmax : ([
    toF .rv64 (.fminmS 4 1 2) (bs 0x3f800000) (bs 0x7f800001) 0 (bs 0x7fc00000) 0b10000#5,
    toF .rv64 (.fmaxmS 4 1 2) (bs 0x3f800000) (bs 0x7f800001) 0 (bs 0x7fc00000) 0b10000#5,
    toF .rv64 (.fminmD 4 1 2) (bd 0x3ff0000000000000) (bd 0x7ff0000000000001) 0 (bd 0x7ff8000000000000) 0b10000#5,
    toF .rv64 (.fmaxmD 4 1 2) (bd 0x3ff0000000000000) (bd 0x7ff0000000000001) 0 (bd 0x7ff8000000000000) 0b10000#5,
    toF .rv64 (.fminmH 4 1 2) (bh 0x3c00) (bh 0x7c01) 0 (bh 0x7e00) 0b10000#5,
    toF .rv64 (.fmaxmH 4 1 2) (bh 0x3c00) (bh 0x7c01) 0 (bh 0x7e00) 0b10000#5,
    toF .rv64 (.fminmQ 4 1 2) 0x3fff0000000000000000000000000000 0x7fff0000000000000000000000000001 0 0x7fff8000000000000000000000000000 0b10000#5,
    toF .rv64 (.fmaxmQ 4 1 2) 0x3fff0000000000000000000000000000 0x7fff0000000000000000000000000001 0 0x7fff8000000000000000000000000000 0b10000#5] : List Bool).all id = true := by decide +kernel

/-- Examples of the rules of FLEQ.S, FLTQ.S, FLEQ.D, FLTQ.D, FLEQ.H, FLTQ.H, FLEQ.Q, FLTQ.Q. -/
theorem test_zfa_compare_class : ([
    toX .rv64 (.fleqS 4 1 2) (bs 0x3f800000) (bs 0x7f800001) 0 0x0 0b10000#5,
    toX .rv64 (.fltqS 4 1 2) (bs 0x3f800000) (bs 0x7f800001) 0 0x0 0b10000#5,
    toX .rv64 (.fleqD 4 1 2) (bd 0x3ff0000000000000) (bd 0x7ff0000000000001) 0 0x0 0b10000#5,
    toX .rv64 (.fltqD 4 1 2) (bd 0x3ff0000000000000) (bd 0x7ff0000000000001) 0 0x0 0b10000#5,
    toX .rv64 (.fleqH 4 1 2) (bh 0x3c00) (bh 0x7c01) 0 0x0 0b10000#5,
    toX .rv64 (.fltqH 4 1 2) (bh 0x3c00) (bh 0x7c01) 0 0x0 0b10000#5,
    toX .rv64 (.fleqQ 4 1 2) 0x3fff0000000000000000000000000000 0x7fff0000000000000000000000000001 0 0x0 0b10000#5,
    toX .rv64 (.fltqQ 4 1 2) 0x3fff0000000000000000000000000000 0x7fff0000000000000000000000000001 0 0x0 0b10000#5] : List Bool).all id = true := by decide +kernel

/-- Examples of the rules of FCVTMOD.W.D. -/
theorem test_zfa_convert : ([
    toX .rv32 (.fcvtmodWD 4 1) (bd 0x41f0000000500000) 0 0 0x5 0b10000#5] : List Bool).all id = true := by decide +kernel

/-- Examples of the rules of FLI.S, FLI.D, FLI.H, FLI.Q, FROUND.S, FROUNDNX.S, FROUND.D, FROUNDNX.D, FROUND.H, FROUNDNX.H, FROUND.Q, FROUNDNX.Q. -/
theorem test_zfa_round_const : ([
    toF .rv64 (.fliS 4 0) 0 0 0 (bs 0xbf800000) 0b00000#5,
    toF .rv64 (.fliD 4 0) 0 0 0 (bd 0xbff0000000000000) 0b00000#5,
    toF .rv64 (.fliH 4 0) 0 0 0 (bh 0xbc00) 0b00000#5,
    toF .rv64 (.fliQ 4 0) 0 0 0 0xbfff0000000000000000000000000000 0b00000#5,
    toF .rv64 (.froundS 4 1 0) (bs 0x7f800001) 0 0 (bs 0x7fc00000) 0b10000#5,
    toF .rv64 (.froundnxS 4 1 0) (bs 0x40200000) 0 0 (bs 0x40000000) 0b00001#5,
    toF .rv64 (.froundD 4 1 0) (bd 0x7ff0000000000001) 0 0 (bd 0x7ff8000000000000) 0b10000#5,
    toF .rv64 (.froundnxD 4 1 0) (bd 0x4004000000000000) 0 0 (bd 0x4000000000000000) 0b00001#5,
    toF .rv64 (.froundH 4 1 0) (bh 0x7c01) 0 0 (bh 0x7e00) 0b10000#5,
    toF .rv64 (.froundnxH 4 1 0) (bh 0x4100) 0 0 (bh 0x4000) 0b00001#5,
    toF .rv64 (.froundQ 4 1 0) 0x7fff0000000000000000000000000001 0 0 0x7fff8000000000000000000000000000 0b10000#5,
    toF .rv64 (.froundnxQ 4 1 0) 0x40004000000000000000000000000000 0 0 0x40000000000000000000000000000000 0b00001#5] : List Bool).all id = true := by decide +kernel

/-- Examples of the rules of FCVT.BF16.S, FCVT.S.BF16. -/
theorem test_bf16_convert : ([
    toF .rv64 (.fcvtBf16S 4 1 0) (bs 0x3eaaaaab) 0 0 (bh 0x3eab) 0b00001#5,
    toF .rv64 (.fcvtSBf16 4 1 0) (bh 0x7f81) 0 0 (bs 0x7fc00000) 0b10000#5] : List Bool).all id = true := by decide +kernel

/-! ## Moves between the files (41 to 45: the examples of FMV, FMVH, FMVP) -/

/-- F alone, F with D, and the whole family, at an XLEN. -/
def onlyF (xl : Xlen) : Config := cfg xl { f := true, zfhmin := true }
def onlyD (xl : Xlen) : Config := cfg xl { f := true, d := true, zfhmin := true, zfa := true }

/-- x4 after an instruction on f1, in a configuration. -/
def mvX (c : Config) (i : Instr) (a r : Nat) : Bool :=
  (nextOf (exec i (st c a 0 0 0 0 0))).map (fun t => ((t.readX 4).toNat, t.fflags)) == some (r, 0)

/-- f4 after an instruction on x1 and x2, in a configuration. -/
def mvF (c : Config) (i : Instr) (a b r : Nat) : Bool :=
  (nextOf (exec i (st c 0 0 0 a b 0))).map (fun t => ((t.readF 4).toNat, t.fflags)) == some (r, 0)

theorem test_fmv_to_x : ([
    mvX (onlyD .rv32) (.fmvXW 4 1) 0xffffffffbf800000 0xbf800000,
    mvX (onlyD .rv64) (.fmvXW 4 1) 0xffffffffbf800000 0xffffffffbf800000,
    mvX (onlyD .rv64) (.fmvXD 4 1) 0x7ff0000000000001 0x7ff0000000000001,
    mvX (full .rv64) (.fmvXD 4 1) 0x0123456789abcdef4000000000000000 0x4000000000000000,
    mvX (onlyF .rv64) (.fmvXH 4 1) 0xffffc400 0xffffffffffffc400,
    mvX (onlyF .rv32) (.fmvXH 4 1) 0x3f803c00 0x00003c00,
    mvX (onlyD .rv32) (.fmvhXD 4 1) 0x3ff8000012345678 0x3ff80000,
    mvX (onlyD .rv32) (.fmvhXD 4 1) 0xffffffff3fc00000 0xffffffff,
    mvX (full .rv64) (.fmvhXQ 4 1) 0x3fff8000000000000123456789abcdef 0x3fff800000000000,
    mvX (full .rv64) (.fmvhXQ 4 1) 0xffffffffffffffff3ff8000000000000 0xffffffffffffffff
    ] : List Bool).all id = true := by decide +kernel

theorem test_fmv_from_x : ([
    mvF (onlyF .rv64) (.fmvWX 4 1) 0x123456783fc00000 0 0x3fc00000,
    mvF (onlyD .rv64) (.fmvWX 4 1) 0x123456783fc00000 0 0xffffffff3fc00000,
    mvF (onlyD .rv64) (.fmvDX 4 1) 0x7ff0000000000001 0 0x7ff0000000000001,
    mvF (full .rv64) (.fmvDX 4 1) 0x7ff0000000000001 0 0xffffffffffffffff7ff0000000000001,
    mvF (onlyF .rv32) (.fmvHX 4 1) 0x12343c00 0 0xffff3c00,
    mvF (onlyD .rv32) (.fmvHX 4 1) 0x12343c00 0 0xffffffffffff3c00,
    mvF (onlyD .rv32) (.fmvpDX 4 1 2) 0 0x3ff80000 0x3ff8000000000000,
    mvF (onlyD .rv32) (.fmvpDX 4 0 0) 7 7 0,
    mvF (full .rv64) (.fmvpQX 4 1 2) 0 0x3fff800000000000 0x3fff8000000000000000000000000000
    ] : List Bool).all id = true := by decide +kernel

/-! ## Loads and stores (95_test_vectors.md section 2.12) -/

/-- The bytes 0x00 to 0x3f at 0x2000 to 0x203f. -/
def data : List Host.Cell := (List.range 63).map (fun k => (0x2001 + k, BitVec.ofNat 8 (k + 1)))

/-- The state of section 2.12: f2, x1 and that data. -/
def sLs (c : Config) (f2 x1 : Nat) : State := { st c 0 f2 0 x1 0 0 with mem := data }

/-- f4 after a load from x1. -/
def ld (c : Config) (i : Instr) (x1 r : Nat) : Bool :=
  (nextOf (exec i (sLs c 0 x1))).map (fun t => (t.readF 4).toNat) == some r

/-- The bytes from an address on after a store of f2. -/
def sd (c : Config) (i : Instr) (f2 x1 a : Nat) (bytes : List Byte) : Bool :=
  (nextOf (exec i (sLs c f2 x1))).map (fun t => (List.range bytes.length).map (fun k => memRead t.mem (a + k))) ==
    some bytes

theorem test_loads : ([
    ld (onlyF .rv32) (.flw 4 1 4) 0x2000 0x07060504,
    ld (onlyD .rv64) (.flw 4 1 4) 0x2000 0xffffffff07060504,
    ld (onlyF .rv32) (.flw 4 1 0x800) 0x2800 0x03020100,
    ld (onlyF .rv32) (.flw 4 1 0x7ff) 0x1809 0x0b0a0908,
    ld (onlyF .rv32) (.flh 4 1 6) 0x2000 0xffff0706,
    ld (onlyD .rv64) (.flh 4 1 6) 0x2000 0xffffffffffff0706,
    ld (onlyD .rv32) (.fld 4 1 8) 0x2000 0x0f0e0d0c0b0a0908,
    ld (full .rv64) (.fld 4 1 8) 0x2000 0xffffffffffffffff0f0e0d0c0b0a0908,
    ld (full .rv64) (.flq 4 1 16) 0x2000 0x1f1e1d1c1b1a19181716151413121110,
    ld (cfg .rv32 { f := true, d := true } .invisible) (.fld 4 1 4) 0x2000 0x0b0a090807060504
    ] : List Bool).all id = true := by decide +kernel

theorem test_stores : ([
    sd (onlyF .rv32) (.fsw 2 1 8) 0xc0490fdb 0x2000 0x2008 [0xdb, 0x0f, 0x49, 0xc0],
    sd (onlyD .rv64) (.fsw 2 1 8) 0x400921fb54442d18 0x2000 0x2008 [0x18, 0x2d, 0x44, 0x54],
    sd (onlyF .rv32) (.fsw 2 1 0xff8) 0xc0490fdb 0x2010 0x2008 [0xdb, 0x0f, 0x49, 0xc0],
    sd (onlyD .rv64) (.fsh 2 1 2) 0x0123456789abcdef 0x2000 0x2002 [0xef, 0xcd],
    sd (onlyD .rv32) (.fsd 2 1 16) 0xffffffff3f800000 0x2000 0x2010 [0, 0, 0x80, 0x3f, 0xff, 0xff, 0xff, 0xff],
    sd (full .rv64) (.fsq 2 1 32) 0x00112233445566778899aabbccddeeff 0x2000 0x2020
      [0xff, 0xee, 0xdd, 0xcc, 0xbb, 0xaa, 0x99, 0x88, 0x77, 0x66, 0x55, 0x44, 0x33, 0x22, 0x11, 0x00],
    sd (cfg .rv32 { f := true } .invisible) (.fsw 2 1 1) 0xc0490fdb 0x2000 0x2001 [0xdb, 0x0f, 0x49, 0xc0]
    ] : List Bool).all id = true := by decide +kernel

theorem test_access_stops :
    faultOf (exec (.flw 4 1 0x20) (sLs (onlyF .rv32) 0 0xfffffff0)) = some (.trap (.loadAccessFault 0x10) 0x1000) ∧
    faultOf (exec (.flw 4 1 2) (sLs (onlyF .rv32) 0 0x2000)) = some (.trap (.loadAddressMisaligned 0x2002) 0x1000) ∧
    faultOf (exec (.flw 4 1 0x3e) (sLs (onlyF .rv32) 0 0x2000)) = some (.trap (.loadAddressMisaligned 0x203e) 0x1000) ∧
    faultOf (exec (.fsw 2 1 1) (sLs (onlyF .rv32) 0 0x2000)) = some (.trap (.storeAddressMisaligned 0x2001) 0x1000) ∧
    faultOf (exec (.fsw 2 1 0x40) (sLs (onlyF .rv32) 0 0x2000)) = some (.trap (.storeAccessFault 0x2040) 0x1000) ∧
    refusalOf (exec (.fsw 2 1 0) (sLs (onlyF .rv32) 0 0x1000)) = some (.storeToProgramText 0x1000) := by decide +kernel

/-- With MISALIGNED = invisible an access at the end of the data lacks a byte (section 2.12). -/
theorem test_invisible_access_faults :
    faultOf (exec (.flw 4 1 0x3e) (sLs (cfg .rv32 { f := true } .invisible) 0 0x2000)) =
      some (.trap (.loadAccessFault 0x203e) 0x1000) ∧
    faultOf (exec (.fsw 2 1 0xffe) (sLs (cfg .rv32 { f := true } .invisible) 0 0x1000)) =
      some (.trap (.storeAccessFault 0xffe) 0x1000) := by decide +kernel

/-! ## CSR accesses (95_test_vectors.md section 2.11) -/

/-- x4 and fcsr after a CSR access with an fcsr value and x1. -/
def csr (i : Instr) (before x1 x4 after : Nat) : Bool :=
  let s := st (onlyF .rv32) 0 0 0 x1 0 0
  (nextOf (exec i { s with frm := BitVec.ofNat 3 (before / 32), fflags := BitVec.ofNat 5 before })).map
    (fun t => ((t.readX 4).toNat, t.fcsr.toNat)) == some (x4, after)

theorem test_csr_accesses : ([
    csr (.csrrs 4 3 0) 0xe3 0 0xe3 0xe3,
    csr (.csrrw 4 3 1) 0xe3 0xffffff5a 0xe3 0x5a,
    csr (.csrrw 4 2 1) 0xe3 0xfffffffa 0x7 0x43,
    csr (.csrrw 4 1 1) 0xe3 0xffffffe4 0x3 0xe4,
    csr (.csrrs 4 1 1) 0x41 0x18 0x1 0x59,
    csr (.csrrc 4 1 1) 0x5f 0x11 0x1f 0x4e,
    csr (.csrrc 4 2 1) 0xff 0x2 0x7 0xbf,
    csr (.csrrc 0 3 1) 0x5f 0xffffffff 0 0,
    csr (.csrrwi 4 2 1) 0x9f 0 0x4 0x3f,
    csr (.csrrwi 4 3 31) 0xe0 0 0xe0 0x1f,
    csr (.csrrsi 4 1 16) 0x21 0 0x1 0x31,
    csr (.csrrsi 4 2 4) 0x21 0 0x1 0xa1,
    csr (.csrrci 4 1 31) 0x3f 0 0x1f 0x20,
    csr (.csrrci 0 2 3) 0xff 0 0 0x9f
    ] : List Bool).all id = true := by decide +kernel

/-! ## The Zfinx family (47_zfinx_family.md, 95_test_vectors.md section 2.10) -/

/-- Zfinx with every member of its family. -/
def zext : ExtSet := { zfinx := true, zdinx := true, zhinx := true, zhinxmin := true }

/-- A configuration of that family. -/
def zcfg (xl : Xlen) : Config := cfg xl zext

/-- x4, x5 and fflags after an instruction with values in x6 to x9. -/
def zx (xl : Xlen) (i : Instr) (x6 x7 x8 x9 : Nat) (x4 x5 : Nat) (fl : FlagSet) : Bool :=
  let s := st (zcfg xl) 0 0 0 0xffffffff 0 0
  let s := { s with
    x := (((s.x.set 6 (BitVec.ofNat 64 x6)).set 7 (BitVec.ofNat 64 x7)).set 8 (BitVec.ofNat 64 x8)).set 9
      (BitVec.ofNat 64 x9) }
  (nextOf (exec i s)).map (fun t => ((t.readX 4).toNat, (t.readX 5).toNat, t.fflags)) == some (x4, x5, fl)

theorem test_zfinx : ([
    zx .rv64 (.faddS 5 6 7 0) 0xdeadbeef3f800000 0x00000000c0000000 0 0 0 0xffffffffbf800000 0,
    zx .rv32 (.faddH 5 6 6 0) 0x12343c00 0 0 0 0 0x00004000 0,
    zx .rv64 (.faddH 5 6 6 0) 0xbc00 0 0 0 0 0xffffffffffffc000 0,
    zx .rv64 (.faddS 5 6 0 0) 0x7f800001 0 0 0 0 0x7fc00000 0b10000#5,
    zx .rv64 (.feqS 5 6 7) 0x3f800000 0x3f800000 0 0 0 1 0
    ] : List Bool).all id = true := by decide +kernel

theorem test_zdinx_pairs : ([
    zx .rv32 (.faddD 4 6 8 0) 0 0x3ff00000 0 0x40000000 0 0x40080000 0,
    zx .rv32 (.faddD 4 0 6 0) 0 0x3ff00000 0 0 0 0x3ff00000 0,
    zx .rv32 (.faddD 0 6 8 0) 0 0x3ff00000 0 0x40000000 0 0 0,
    zx .rv32 (.fcvtDS 4 7 0) 0 0x3fc00000 0 0 0 0x3ff80000 0,
    zx .rv32 (.fcvtWD 5 6 1) 0 0x40040000 0 0 0 2 0b00001#5,
    zx .rv64 (.faddD 5 7 9 0) 0 0x3ff0000000000000 0 0x4000000000000000 0 0x4008000000000000 0
    ] : List Bool).all id = true := by decide +kernel

theorem test_zfinx_illegal :
    faultOf (exec (.faddD 5 6 8 0) (st (zcfg .rv32) 0 0 0 0 0 0)) = some (.trap (.illegalInstruction 0x028302d3) 0x1000) ∧
    faultOf (exec (.flw 1 10 0) (st (zcfg .rv64) 0 0 0 0 0 0)) = some (.trap (.illegalInstruction 0x00052087) 0x1000) ∧
    faultOf (exec (.fmvXW 5 1) (st (zcfg .rv32) 0 0 0 0 0 0)) = some (.trap (.illegalInstruction 0xe00082d3) 0x1000) ∧
    faultOf (exec (.fliS 1 16) (st (zcfg .rv64) 0 0 0 0 0 0)) = some (.trap (.illegalInstruction 0xf01800d3) 0x1000) := by
  decide +kernel

/-! ## Boxing (95_test_vectors.md, the NaN-box rows) and whole steps (section 2.13) -/

/-- A single read with FLEN = 64 whose upper half is not all ones is the canonical NaN (40_fp_common.md R138). -/
theorem test_bad_box : mvX (onlyD .rv64) (.fclassS 4 1) 0x000000003f800000 0x200 = true ∧
    mvX (onlyD .rv64) (.fclassS 4 1) 0xffffffff3f800000 0x40 = true := by decide +kernel

/-- A state that fetches a word at 0x1000. -/
def sW (c : Config) (w : Word) : State := { st c 0 0 0 0 0 0 with mem := placeBytes [] 0x1000 w }

theorem test_steps :
    faultOf (step (sW (cfg .rv32 {}) 0x003100d3)) = some (.trap (.illegalInstruction 0x003100d3) 0x1000) ∧
    faultOf (step (sW (onlyF .rv32) 0x003150d3)) = some (.trap (.illegalInstruction 0x003150d3) 0x1000) ∧
    refusalOf (step (sW (onlyF .rv32) 0x00000033)) = some (.outOfScopeWord 0x00000033) ∧
    refusalOf (step (sW (onlyF .rv32) 0x00000073)) = some (.outOfScopeWord 0x00000073) ∧
    (nextOf (step (sW (onlyF .rv32) 0x003100d3))).map (fun t => t.pc) = some 0x1004 := by decide +kernel

/-- The pc wraps modulo 2^XLEN (10_state.md R23). -/
theorem test_pc_wraps :
    (nextOf (exec (.fsgnjS 1 2 3) { st (onlyF .rv32) 0 0 0 0 0 0 with pc := 0xfffffffc })).map (fun t => t.pc) =
      some 0 := by decide +kernel

/-- The instruction placed in the reset state is the one the next step runs. -/
theorem test_placed : (nextOf (step (State.reset.withFetchWord 32 0x003100d3))).map (fun t => t.pc) = some 4 ∧
    refusalOf (step (State.reset.withFetchWord 32 0x28)) = some (.outOfScopeWord 0x28) := by decide +kernel

/-- At PROG_END the run is over (60_exceptions.md R529). -/
theorem test_final : nextOf (step { st (onlyF .rv32) 0 0 0 0 0 0 with pc := 0x1004 }) =
    some { st (onlyF .rv32) 0 0 0 0 0 0 with pc := 0x1004 } := by decide +kernel

/-- An XLEN of 128 is no launch (92_eei_decisions.md D1). -/
def launchOf (xlen : Nat) (e : ExtSet) : Launch :=
  { xlen := xlen, ext := e, misaligned := .trap, fsOn := true, regions := [⟨0x1000, 4⟩], bytes := [(0x1000, 0x53#8)],
    progBase := 0x1000, progEnd := 0x1004, pc := 0x1000, x := Vector.replicate 32 7, f := Vector.replicate 32 9,
    frm := 0, fflags := 0 }

theorem test_launch_xlen : refusalOf (launch (launchOf 128 { f := true })) = some (.unsupportedXlen 128) ∧
    refusalOf (launch (launchOf 64 { d := true })) = some .illFormedConfig ∧
    (nextOf (launch (launchOf 64 { f := true }))).map (fun t => (t.readX 0, t.readX 31)) = some (0, 7) := by
  decide +kernel

/-! ## Witnesses: for each statement with hypotheses, a state and operands that meet them together -/

/-- Singles 1.5 and -2.25 and a double in boxed registers, all of the f-register family, RV64. -/
def sF : State := st (full .rv64) (bs 0x3fc00000) (bs 0xc0100000) (bd 0x3ff8000000000000) 0x2000 0x2004 7

/-- The same on RV32. -/
def sF32 : State := st (full .rv32) (bs 0x3fc00000) (bs 0xc0100000) (bd 0x3ff8000000000000) 0x2000 0x2004 7

/-- Zfinx with Zdinx and Zhinx on RV32: pairs. -/
def sZ32 : State := st (zcfg .rv32) 0 0 0 0 0x3fc00000 0x40000000

/-- Zfinx with Zdinx and Zhinx on RV64. -/
def sZ64 : State := st (zcfg .rv64) 0 0 0 0x3fc00000 0x3ff8000000000000 5

/-- Patterns of the formats. -/
def pH (n : Nat) : Bits .h := BitVec.ofNat 16 n
def pB (n : Nat) : Bits .bf16 := BitVec.ofNat 16 n
def pS (n : Nat) : Bits .s := BitVec.ofNat 32 n
def pD (n : Nat) : Bits .d := BitVec.ofNat 64 n

/-- With FS Off. -/
def sOff : State := { sF with cfg := { sF.cfg with fsOn := false } }

/-- Whether an instruction completes. -/
def goes (i : Instr) (s : State) : Bool := (nextOf (exec i s)).isSome

theorem witness_WordsDecodeUniquely : decode 0x003100d3 = .instr (.faddS 1 2 3 0) := by decide +kernel

/-- An fadd.s at 0x1000. -/
theorem witness_StepRunsDecodedInstruction :
    let s := sW (full .rv64) 0x003100d3
    s.cfg.wf = true ∧ s.pc.toNat % 4 = 0 ∧ s.pc.toNat ≠ s.cfg.progEnd % 2 ^ s.xlen ∧
      (∀ k < 4, s.mapped (s.byteAddr s.pc k) = true) ∧
      decode (memRead s.mem (s.byteAddr s.pc 3) ++ memRead s.mem (s.byteAddr s.pc 2) ++
        memRead s.mem (s.byteAddr s.pc 1) ++ memRead s.mem (s.byteAddr s.pc 0)) = .instr (.faddS 1 2 3 0) := by
  decide +kernel

/-- A text whose last byte, or whose first, is not in MEM. -/
theorem witness_FetchOutsideMemoryFaults :
    (let s : State := { sF with cfg := { sF.cfg with regions := [⟨0x1000, 3⟩] } }
     s.cfg.wf = true ∧ s.pc.toNat % 4 = 0 ∧ s.pc.toNat ≠ s.cfg.progEnd % 2 ^ s.xlen ∧
       s.mapped (s.byteAddr s.pc 3) = false) ∧
    (let s : State := { sF with cfg := { sF.cfg with regions := [⟨0x1001, 3⟩] } }
     s.cfg.wf = true ∧ s.pc.toNat % 4 = 0 ∧ s.pc.toNat ≠ s.cfg.progEnd % 2 ^ s.xlen ∧
       s.mapped (s.byteAddr s.pc 0) = false) := by decide +kernel

/-- An unallocated OP-FP word, and ECALL. -/
theorem witness_UnmatchedWordOutcome :
    (let s := sW (full .rv64) 0xfe000053
     s.cfg.wf = true ∧ (∀ k < 4, s.mapped (s.byteAddr s.pc k) = true) ∧
       (∀ r ∈ rows, fetchWord s &&& r.mask ≠ r.bits) ∧ (fetchWord s).extractLsb' 0 7 = 0b1010011#7) ∧
    (let s := sW (full .rv64) 0x00000073
     s.cfg.wf = true ∧ (∀ k < 4, s.mapped (s.byteAddr s.pc k) = true) ∧
       (∀ r ∈ rows, fetchWord s &&& r.mask ≠ r.bits) ∧ (fetchWord s).extractLsb' 0 7 = 0b1110011#7) := by
  decide +kernel

/-- FCVTMOD.W.D with rm 111 and with rm 000. -/
theorem witness_ModularConvertNeedsRtz :
    (let s := sW (full .rv64) 0b1100001_01000_00010_111_00001_1010011#32
     s.cfg.wf = true ∧ s.pc.toNat ≠ s.cfg.progEnd % 2 ^ s.xlen ∧ (∀ k < 4, s.mapped (s.byteAddr s.pc k) = true) ∧
       fetchWord s = 0b1100001#7 ++ 0b01000#5 ++ 2#5 ++ 0b111#3 ++ 1#5 ++ 0b1010011#7) ∧
    fetchWord (sW (full .rv64) 0b1100001_01000_00010_000_00001_1010011#32) =
      0b1100001#7 ++ 0b01000#5 ++ 2#5 ++ 0b000#3 ++ 1#5 ++ 0b1010011#7 := by decide +kernel

/-- At 0x1000 and at the last word of the address space. -/
theorem witness_PlacedInstructionIsRun :
    (sF.cfg.wf = true ∧ Memory.wf sF.mem = true ∧ sF.trunc sF.pc = sF.pc ∧ sF.pc.toNat % 4 = 0) ∧
    (let s : State := { sF32 with pc := 0xfffffffc }
     s.cfg.wf = true ∧ Memory.wf s.mem = true ∧ s.trunc s.pc = s.pc ∧ s.pc.toNat % 4 = 0) := by decide +kernel

/-- A state in the invariant, x0 zero and one byte listed, whose step stores. -/
theorem witness_StepKeepsInvariant :
    ∃ s : State, s.Inv ∧ ∃ t, step s = .next t := by
  refine ⟨{ sF with mem := placeBytes [] 0x1000 0x0020a227 }, ⟨?_, ?_, ?_, ?_, ?_, ?_, ?_, ?_⟩, next_of ?_⟩ <;>
    decide +kernel

/-- An accepted launch; each broken premise: among them a pc one word off the text at
either end, and a text whose bytes from its fifth to its eighth are in no range. -/
theorem witness_LaunchOutcomes : (∃ s, launch (launchOf 64 { f := true }) = .next s) ∧
    ((launchOf 64 { d := true }).ext.d = true ∧ (launchOf 64 { d := true }).ext.f = false) ∧
    ((launchOf 64 { f := true, q := true }).ext.q = true ∧ (launchOf 64 { f := true, q := true }).ext.d = false) ∧
    ((launchOf 64 { zfa := true }).ext.zfa = true ∧ (launchOf 64 { zfa := true }).ext.f = false) ∧
    ((launchOf 64 { zdinx := true }).ext.zdinx = true ∧ (launchOf 64 { zdinx := true }).ext.zfinx = false) ∧
    ((launchOf 64 { f := true, zfinx := true }).ext.zfinx = true ∧ (launchOf 64 { f := true, zfinx := true }).ext.f = true) ∧
    ((launchOf 128 {}).xlen ≠ 32 ∧ (launchOf 128 {}).xlen ≠ 64) ∧
    ({ launchOf 64 {} with pc := 2 } : Launch).pc.toNat % 4 ≠ 0 ∧
    ({ launchOf 64 {} with progBase := 1 } : Launch).progBase % 4 ≠ 0 ∧
    ({ launchOf 64 {} with progEnd := 7 } : Launch).progEnd % 4 ≠ 0 ∧
    ({ launchOf 64 {} with progBase := 8, progEnd := 4 } : Launch).progEnd < 8 ∧
    2 ^ (launchOf 32 {}).xlen < ({ launchOf 32 {} with progEnd := 0x100000004 } : Launch).progEnd ∧
    ({ launchOf 32 {} with progBase := 0, progEnd := 0x100000000 } : Launch).progEnd = 2 ^ (launchOf 32 {}).xlen ∧
    (let l : Launch := { launchOf 64 { f := true } with pc := 0xffc }
     l.pc.toNat < 2 ^ l.xlen ∧ l.pc.toNat < l.progBase ∧ refusalOf (launch l) = some .textOutsideMemory) ∧
    (let l : Launch := { launchOf 64 { f := true } with pc := 0x1008 }
     l.pc.toNat < 2 ^ l.xlen ∧ l.progEnd < l.pc.toNat ∧ refusalOf (launch l) = some .textOutsideMemory) ∧
    (let l : Launch := { launchOf 64 { f := true } with progEnd := 0x1008 }
     ∀ a ∈ [0x1004, 0x1007], l.progBase ≤ a ∧ a < l.progEnd ∧ (∀ r ∈ l.regions, ¬(r.base ≤ a ∧ a < r.base + r.size)) ∧
       refusalOf (launch l) = some .textOutsideMemory) :=
  ⟨next_of (by decide +kernel), by decide +kernel⟩

/-- A launch that meets every premise of acceptance, at PROG_BASE and at PROG_END, with one byte listed. -/
theorem witness_LaunchOutcomes_accepted :
    (let l := launchOf 64 { f := true, d := true, q := true, zfa := true }
     l.xlen = 64 ∧ l.ext.f = true ∧ l.ext.d = true ∧ l.ext.zfinx = false ∧ l.ext.zdinx = false ∧ l.ext.zhinx = false ∧
       l.ext.zhinxmin = false ∧ l.pc.toNat % 4 = 0 ∧ l.progBase % 4 = 0 ∧ l.progEnd % 4 = 0 ∧ l.progBase ≤ l.progEnd ∧
       l.progEnd ≤ 2 ^ l.xlen ∧ ¬(l.progBase = 0 ∧ l.progEnd = 2 ^ l.xlen) ∧ l.pc.toNat < 2 ^ l.xlen ∧
       l.progBase ≤ l.pc.toNat ∧ l.pc.toNat ≤ l.progEnd ∧ l.regions = [⟨l.progBase, l.progEnd - l.progBase⟩] ∧
       (l.bytes.map (·.1)).Nodup ∧ (0x1000, 0x53#8) ∈ l.bytes) ∧
    (launch { launchOf 64 { f := true } with pc := 0x1004 } |> nextOf).isSome = true ∧
    (launch { launchOf 32 { zfinx := true } with pc := 0x1004 } |> nextOf).isSome = true := by decide +kernel

/-- At the top of the address space an instruction completes; on the full file FMVH.X.D raises on RV64. -/
theorem witness_InstructionsAdvancePc :
    (∃ t, exec (.faddS 4 1 2 0) { sF32 with pc := 0xfffffffc } = .next t) ∧
    exec (.fmvhXD 4 1) sF = .fault (.trap (.illegalInstruction (encode (.fmvhXD 4 1))) sF.pc) :=
  ⟨next_of (by decide +kernel), by rfl⟩

theorem witness_StepKeepsConfiguration :
    ∃ s : State, (∃ t, step s = .next t) ∧ Memory.wf s.mem = true ∧ s.cfg.progBase ≤ 0x1000 ∧ 0x1003 < s.cfg.progEnd :=
  ⟨{ sF with mem := placeBytes [] 0x1000 0x0020a227 }, next_of (by decide +kernel), by decide +kernel⟩

/-- FADD.S is no CSR access; FSGNJ.S never sets a flag; CSRRW is one. -/
theorem witness_FlagsAccrueInLegalCombinations :
    (∃ t, exec (.faddS 4 1 2 0) sF = .next t) ∧ isCsrAccess (.faddS 4 1 2 0) = false ∧
    (∃ t, exec (.fsgnjS 4 1 2) sF = .next t) ∧ neverSetsFlags (.fsgnjS 4 1 2) = true :=
  ⟨next_of (by decide +kernel), by decide, next_of (by decide +kernel), by decide⟩

/-- In an f register, in an x register, in a pair, and in x0. -/
theorem witness_FrameOfFpResults :
    (dest (.faddD 4 1 2 0) = .fp .d 4 ∧ sF.inX = false ∧ ∃ t, exec (.faddD 4 1 2 0) sF = .next t) ∧
    (sZ64.inX = true ∧ Fmt.width .d ≤ sZ64.xlen ∧ ∃ t, exec (.faddD 31 1 2 0) sZ64 = .next t) ∧
    (sZ32.inX = true ∧ ¬ Fmt.width .d ≤ sZ32.xlen ∧ (∃ t, exec (.faddD 30 2 2 0) sZ32 = .next t) ∧
      ∃ t, exec (.faddD 0 2 2 0) sZ32 = .next t) :=
  ⟨⟨by decide, by decide, next_of (by decide +kernel)⟩, ⟨by decide, by decide, next_of (by decide +kernel)⟩,
    ⟨by decide, by decide, next_of (by decide +kernel), next_of (by decide +kernel)⟩⟩

theorem witness_FrameOfFRegisterWrites :
    (dest (.flw 4 1 0) = .f 4 ∧ ∃ t, exec (.flw 4 1 0) sF = .next t) ∧
    (dest (.fliS 31 31) = .f 31 ∧ ∃ t, exec (.fliS 31 31) sF = .next t) :=
  ⟨⟨by decide, next_of (by decide +kernel)⟩, ⟨by decide, next_of (by decide +kernel)⟩⟩

theorem witness_FrameOfIntegerResults :
    (dest (.feqS 4 1 2) = .x 4 ∧ ∃ t, exec (.feqS 4 1 2) sF = .next t) ∧
    (dest (.fcvtWS 0 1 0) = .x 0 ∧ ∃ t, exec (.fcvtWS 0 1 0) sF = .next t) :=
  ⟨⟨by decide, next_of (by decide +kernel)⟩, ⟨by decide, next_of (by decide +kernel)⟩⟩

/-- The last bytes of the data, and an address outside them. -/
theorem witness_FrameOfStores :
    dest (.fsd 3 1 56) = .mem .d 1 56 ∧ Memory.wf sF.mem = true ∧ (∃ t, exec (.fsd 3 1 56) sF = .next t) ∧
      ∀ k < 8, 0x2037 ≠ sF.byteAddr (sF.effAddr 1 56) k :=
  ⟨by decide, by decide, next_of (by decide +kernel), by decide +kernel⟩

theorem witness_FrameOfCsrAccesses :
    (dest (.csrrw 4 1 1) = .csr 4 1 ∧ ∃ t, exec (.csrrw 4 1 1) sF = .next t) ∧
    (dest (.csrrs 0 2 1) = .csr 0 2 ∧ ∃ t, exec (.csrrs 0 2 1) sF = .next t) :=
  ⟨⟨by decide, next_of (by decide +kernel)⟩, ⟨by decide, next_of (by decide +kernel)⟩⟩

theorem witness_ZfinxNeverTouchesFRegisters :
    sZ64.cfg.ext.wf = true ∧ sZ64.cfg.ext.zfinx = true ∧ ∃ t, exec (.faddS 4 1 1 0) sZ64 = .next t :=
  ⟨by decide, by decide, next_of (by decide +kernel)⟩

/-- A static mode at both ends of the reserved range, and a dynamic one; the highest code that is not reserved. -/
theorem witness_ReservedRoundingModeIsIllegal : sF.resolveMode 0b100#3 = some .rmm ∧
    ({ sF with frm := 0b100#3 } : State).resolveMode 0b111#3 = some .rmm ∧
    rmField (.faddS 4 1 2 0b101#3) = some 0b101#3 ∧ rmField (.fcvtDS 4 1 0b110#3) = some 0b110#3 ∧
    rmField (.fcvtSW 4 1 0b111#3) = some 0b111#3 ∧ ({ sF with frm := 0b101#3 } : State).frm = 0b101#3 ∧
    ({ sF with frm := 0b111#3 } : State).frm = 0b111#3 := by decide

/-- No extension at all on RV32 and on RV64 meets every condition of the statement but one XLEN's each. -/
theorem witness_MissingExtensionIsIllegal :
    (let s := st (cfg .rv32 {}) 0 0 0 0 0 0
     s.cfg.ext.f = false ∧ s.cfg.ext.d = false ∧ s.cfg.ext.q = false ∧ hasHTransfer s = false ∧ hasS s = false ∧
       hasD s = false ∧ hasQ s = false ∧ hasH s = false ∧ hasHmin s = false ∧ hasHD s = false ∧ hasHQ s = false ∧
       s.cfg.ext.zfbfmin = false ∧ s.cfg.ext.zfa = false ∧ s.cfg.xlen = .rv32) ∧
    sF.cfg.xlen = .rv64 ∧ (let s := st (onlyF .rv64) 0 0 0 0 0 0
     hasD s = false ∧ (s.cfg.ext.zfa && (s.cfg.ext.zfh || s.cfg.ext.zvfh)) = false) := by decide +kernel

theorem witness_OddPairRegisterIsIllegal : sZ32.cfg.xlen = .rv32 ∧ sZ32.cfg.ext.zdinx = true ∧
    (31#5).toNat % 2 = 1 ∧ (1#5).toNat % 2 = 1 := by decide

theorem witness_TransfersAreIllegalUnderZfinx : sZ32.cfg.ext.wf = true ∧ sZ32.cfg.ext.zfinx = true := by decide

theorem witness_FsOffDisablesEveryInstruction :
    (sOff.cfg.fsOn = false ∧ sOff.cfg.ext.zfinx = false ∧ csrKnown (.csrrw 1 3 2) = true ∧
      csrKnown (.faddS 1 2 3 0) = true) ∧ sZ64.cfg.ext.zfinx = true := by decide

/-- A load, a store and an operation that raise; a CSR access and a store that are refused. -/
theorem witness_WhatCanStopAnInstruction :
    (faultOf (exec (.flw 4 1 2) sF)).isSome = true ∧ (faultOf (exec (.fsw 2 1 2) sF)).isSome = true ∧
    (faultOf (exec (.fmvhXD 4 1) sF)).isSome = true ∧ (refusalOf (exec (.csrrw 1 0 2) sF)).isSome = true ∧
    (let s : State := { sF with cfg := { sF.cfg with progBase := 0x2000, progEnd := 0x2004 } }
     (refusalOf (exec (.fsw 2 1 0) s)).isSome = true) := by decide +kernel

/-- The first and the last aligned access of the data. -/
theorem witness_LoadsCompleteWithTheirBytes :
    sF.fpEnabled = true ∧ sF.cfg.ext.f = true ∧ sF.cfg.ext.d = true ∧ sF.cfg.ext.q = true ∧ hasHTransfer sF = true ∧
    (∀ n ∈ [2, 4, 8, 16], (sF.effAddr 1 0).toNat % n = 0 ∧ ∀ k < n, sF.mapped (sF.byteAddr (sF.effAddr 1 0) k) = true) ∧
    (sF.effAddr 1 60).toNat % 4 = 0 ∧ ∀ k < 4, sF.mapped (sF.byteAddr (sF.effAddr 1 60) k) = true := by decide +kernel

theorem witness_StoresCompleteWithTheirBytes :
    sF.fpEnabled = true ∧ Memory.wf sF.mem = true ∧ sF.cfg.ext.f = true ∧ sF.cfg.ext.d = true ∧
    sF.cfg.ext.q = true ∧ hasHTransfer sF = true ∧
    (∀ n ∈ [2, 4, 8, 16], (sF.effAddr 1 0).toNat % n = 0 ∧ ∀ k < n,
      sF.mapped (sF.byteAddr (sF.effAddr 1 0) k) = true ∧ sF.cfg.progEnd ≤ sF.byteAddr (sF.effAddr 1 0) k) := by
  decide +kernel

/-- A misaligned address, the first byte after the data, and the program text. -/
theorem witness_AddressExceptions :
    sF.fpEnabled = true ∧ sF.cfg.ext.f = true ∧ sF.cfg.ext.d = true ∧ sF.cfg.ext.q = true ∧ hasHTransfer sF = true ∧
    sF.cfg.misaligned = .trap ∧ (∀ n ∈ [2, 4, 8, 16], (sF.effAddr 1 1).toNat % n ≠ 0) ∧
    (∀ n ∈ [2, 4, 8, 16], (sF.effAddr 1 64).toNat % n = 0 ∧ sF.mapped (sF.byteAddr (sF.effAddr 1 64) 0) = false) ∧
    (let s : State := { sF with cfg := { sF.cfg with progBase := 0x2000, progEnd := 0x2004 } }
     ∀ n ∈ [2, 4, 8, 16], (s.effAddr 1 0).toNat % n = 0 ∧
       (∀ k < n, s.mapped (s.byteAddr (s.effAddr 1 0) k) = true) ∧
       s.cfg.progBase ≤ s.byteAddr (s.effAddr 1 0) 1 ∧ s.byteAddr (s.effAddr 1 0) 1 < s.cfg.progEnd) := by
  decide +kernel

/-- The next state of a state that has one. -/
def thenOf (i : Instr) (s : State) : State := (nextOf (exec i s)).getD s

theorem witness_StoreThenLoadRestoresRegister :
    (let s : State := { sF with cfg := { sF.cfg with ext := { f := true, d := true } } }
     Memory.wf s.mem = true ∧ s.flen = 64 ∧ goes (.fsd 3 1 0) s = true ∧ goes (.fld 31 1 0) (thenOf (.fsd 3 1 0) s) = true) ∧
    Memory.wf sF.mem = true ∧ sF.flen = 128 ∧ goes (.fsq 3 1 0) sF = true ∧
      goes (.flq 31 1 0) (thenOf (.fsq 3 1 0) sF) = true := by decide +kernel

/-- Enabled, every f-register extension, a static and a dynamic mode; and under Zfinx the pairs of RV32. -/
theorem witness_ComputationsComplete :
    (sF.fpEnabled = true ∧ sF.resolveMode 0 = some .rne ∧ sF.resolveMode 7 = some .rne ∧ sF.resolveMode 4 = some .rmm ∧
      hasS sF = true ∧ hasD sF = true ∧ hasQ sF = true ∧ hasH sF = true ∧ hasHmin sF = true ∧ hasHD sF = true ∧
      hasHQ sF = true ∧ hasHTransfer sF = true ∧ sF.cfg.ext.zfa = true ∧ sF.cfg.ext.zfbfmin = true ∧
      sF.cfg.xlen = .rv64 ∧ pairsOk sF [1, 2, 3, 5] = true) ∧
    (sZ32.fpEnabled = true ∧ sZ32.resolveMode 7 = some .rne ∧ hasS sZ32 = true ∧ hasD sZ32 = true ∧ hasH sZ32 = true ∧
      hasHmin sZ32 = true ∧ hasHD sZ32 = true ∧ pairsOk sZ32 [0, 2, 30] = true) ∧
    (sF32.cfg.xlen = .rv32 ∧ sF32.cfg.ext.zfa = true ∧ sF32.cfg.ext.d = true) := by decide +kernel

theorem witness_ArithmeticCompletes : ∃ mode, sF.fpEnabled = true ∧ sF.resolveMode 7 = some mode ∧ hasS sF = true ∧
    hasD sF = true ∧ hasQ sF = true ∧ hasH sF = true ∧ pairsOk sF [4, 1, 2] = true := ⟨.rne, by decide +kernel⟩

theorem witness_FusedMultiplyAddCompletes : ∃ mode, sZ32.fpEnabled = true ∧ sZ32.resolveMode 3 = some mode ∧
    hasS sZ32 = true ∧ hasD sZ32 = true ∧ hasH sZ32 = true ∧ pairsOk sZ32 [4, 2, 0, 30] = true ∧ hasQ sF = true ∧
    sF.resolveMode 3 = some mode := ⟨.rup, by decide +kernel⟩

/-- All of the f-register family enabled, and a single whose box has a zero at its lowest bit or at its highest. -/
theorem witness_SignInjectionCompletes : (sF.fpEnabled = true ∧ hasS sF = true ∧ hasD sF = true ∧ hasQ sF = true ∧
      hasH sF = true ∧ pairsOk sF [4, 1, 2] = true) ∧
    (0xfffffffe3f800000#128).getLsbD 32 = false ∧ (0x7fffffff3f800000#128).getLsbD 63 = false ∧
    Fmt.width .s ≤ 32 ∧ 32 < 64 := by decide +kernel

/-- Numbers, zeros of unlike sign, one NaN and two, an infinity. -/
theorem witness_MinMaxCompletes :
    (sF.fpEnabled = true ∧ hasS sF = true ∧ hasD sF = true ∧ pairsOk sF [4, 1, 2] = true ∧ sF.cfg.ext.zfa = true ∧
      sF.cfg.ext.q = true ∧ sF.cfg.ext.zfh = true) ∧
    (let a : Bits .s := pS 0x3fc00000
     let z : Bits .s := pS 0x80000000
     let p : Bits .s := pS 0
     let n : Bits .s := pS 0x7fc00000
     let sn : Bits .s := pS 0x7f800001
     isNaN a = false ∧ isNaN z = false ∧ isZero z = true ∧ isZero p = true ∧ signOf z ≠ signOf p ∧ isNaN n = true ∧
       isNaN sn = true ∧ isSNaN sn = true ∧ isInf (pS 0xff800000) = true) := by decide +kernel

theorem witness_ComparesComplete :
    (sF.fpEnabled = true ∧ hasS sF = true ∧ hasQ sF = true ∧ pairsOk sF [1, 2] = true ∧ sF.cfg.ext.zfa = true) ∧
    isNaN (pH 0x0400) = false ∧ isNaN (pH 0x8000) = false ∧ isNaN (pH 0x7e00) = true := by
  decide +kernel

theorem witness_ClassifyCompletes : sF.fpEnabled = true ∧ hasS sF = true ∧ hasD sF = true ∧ hasQ sF = true ∧
    hasH sF = true ∧ pairsOk sF [3] = true := by decide +kernel

/-- A signaling NaN stands for the second clause. -/
theorem witness_RoundToIntegralCompletes : isSNaN (pS 0x7f800001) = true ∧ ∃ mode, sF.fpEnabled = true ∧ sF.resolveMode 2 = some mode ∧
    sF.cfg.ext.zfa = true ∧ sF.cfg.ext.d = true ∧ sF.cfg.ext.q = true ∧ sF.cfg.ext.zfh = true :=
  ⟨by decide, .rdn, by decide +kernel⟩

/-- 1.5 is finite and 2 its choice under RNE; 2^31 and -2^31 - 1 lie one beyond W; an infinity; a NaN. -/
theorem witness_FloatToIntegerCompletes :
    (∃ mode, sF.fpEnabled = true ∧ sF.resolveMode 1 = some mode ∧ hasS sF = true ∧ pairsOk sF [1] = true ∧
      sF.cfg.xlen = .rv64) ∧
    (isFinite (pS 0x3fc00000) = true ∧ ratOf (pS 0x3fc00000) = 3 / 2 ∧ Chosen .rne (3 / 2) 1 2) ∧
    (ratOf (pD 0x41e0000000000000) = 2147483648 ∧ Chosen .rtz 2147483648 1 2147483648) ∧
    (ratOf (pD 0xc1e0000000200000) = -2147483649 ∧ Chosen .rup (-2147483649) 1 (-2147483649)) ∧
    isInf (pS 0xff800000) = true ∧ isNaN (pS 0x7fc00000) = true := by
  refine ⟨⟨.rtz, by decide +kernel⟩, ⟨by decide, by decide +kernel, ?_⟩, ⟨by decide +kernel, ?_⟩,
    ⟨by decide +kernel, ?_⟩, by decide +kernel⟩ <;> norm_num [Chosen, abs_of_neg, abs_of_pos]

theorem witness_IntegerToFloatCompletes : ∃ mode, sZ32.fpEnabled = true ∧ sZ32.resolveMode 0 = some mode ∧
    hasS sZ32 = true ∧ hasD sZ32 = true ∧ pairsOk sZ32 [30] = true ∧ sZ64.cfg.xlen = .rv64 ∧ hasQ sF = true :=
  ⟨.rne, by decide +kernel⟩

theorem witness_FloatToFloatCompletes : ∃ mode, sF.fpEnabled = true ∧ sF.resolveMode 0 = some mode ∧ hasD sF = true ∧
    hasQ sF = true ∧ hasHmin sF = true ∧ hasHD sF = true ∧ hasHQ sF = true ∧ sF.cfg.ext.zfbfmin = true ∧
    pairsOk sF [4] = true ∧ hasHD sZ32 = true ∧ pairsOk sZ32 [2] = true := ⟨.rne, by decide +kernel⟩

/-- -1.5 in the W range and 2^31 just outside it; an infinity. -/
theorem witness_ModularConvertCompletes :
    (sF.fpEnabled = true ∧ sF.cfg.ext.zfa = true ∧ sF.cfg.ext.d = true ∧ isFinite (sF.readFp .d 3) = true) ∧
    (ratOf (pD 0xbff8000000000000) = -3 / 2 ∧ Chosen .rtz (-3 / 2) 1 (-1)) ∧
    (ratOf (pD 0x41e0000000000000) = 2147483648 ∧ Chosen .rtz 2147483648 1 2147483648) ∧
    isFinite (pD 0x7ff0000000000000) = false := by
  refine ⟨by decide +kernel, ⟨by decide +kernel, ?_⟩, ⟨by decide +kernel, ?_⟩, by decide +kernel⟩ <;>
    norm_num [Chosen, abs_of_neg, abs_of_pos]

theorem witness_MovesComplete : (sF.fpEnabled = true ∧ sF.cfg.ext.f = true ∧ sF.cfg.ext.d = true ∧
      sF.cfg.xlen = .rv64 ∧ hasHTransfer sF = true ∧ sF.cfg.ext.zfa = true ∧ sF.cfg.ext.q = true ∧
      sF.cfg.ext.zfh = true) ∧
    sF32.fpEnabled = true ∧ sF32.cfg.xlen = .rv32 ∧ sF32.cfg.ext.zfa = true ∧ sF32.cfg.ext.d = true := by
  decide +kernel

theorem witness_CsrAccessesComplete : sF.fpEnabled = true ∧ hasS sF = true ∧ sZ32.fpEnabled = true ∧
    hasS sZ32 = true := by decide

/-- 0x000 and 0x004 stand on either side of the three numbers. -/
theorem witness_CsrAccessStops : (0x000#12 ≠ 0x001#12 ∧ 0x004#12 ≠ 0x003#12) ∧
    hasS (st (cfg .rv64 {}) 0 0 0 0 0 0) = false := by decide +kernel

/-- An integer result, a CSR access, and floating-point results in an x register and in a pair. -/
theorem witness_ZeroRegisterKeepsOtherEffects : (∃ mode, sF.resolveMode 0 = some mode ∧
      goes (.fcvtWS 0 1 0) sF = true ∧ goes (.fcvtLuD 0 3 0) sF = true ∧ goes (.fltS 0 1 2) sF = true ∧
      goes (.fcvtmodWD 0 3) sF = true ∧ goes (.csrrw 0 2 3) sF = true) ∧
    (dest (.fclassQ 0 1) = .x 0 ∧ goes (.fclassQ 0 1) sF = true ∧ goes (withRd 31 (.fclassQ 0 1)) sF = true) ∧
    (dest (.csrrs 0 1 2) = .csr 0 1 ∧ goes (.csrrs 0 1 2) sF = true ∧ goes (withRd 1 (.csrrs 0 1 2)) sF = true) ∧
    (dest (.faddS 0 1 2 0) = .fp .s 0 ∧ sZ64.inX = true ∧ goes (.faddS 0 1 2 0) sZ64 = true ∧
      goes (withRd 31 (.faddS 0 1 2 0)) sZ64 = true) ∧
    (dest (.faddD 0 2 2 0) = .fp .d 0 ∧ sZ32.inX = true ∧ goes (withRd 30 (.faddD 0 2 2 0)) sZ32 = true) :=
  ⟨⟨.rne, by decide +kernel⟩, by decide +kernel⟩

/-- n below FLEN and n = FLEN; a wider format. -/
theorem witness_NanBoxingOfResults : Fmt.width .h ≤ 32 ∧ Fmt.width .q ≤ 128 ∧ Fmt.width .h < Fmt.width .s ∧
    sF.flen = 128 ∧ sF.inX = false := by decide

/-- Boxes of S at FLEN 64, one with a zero; a state with f registers. -/
theorem witness_BadlyBoxedReadsAsCanonicalNaN : Fmt.width .s ≤ 64 ∧ sF.cfg.ext.zfinx = false ∧
    (0x7fffffff3f800000#128).getLsbD 63 = false ∧ (∀ b < 64, 32 ≤ b → (0xffffffff3f800000#128).getLsbD b = true) ∧
    isSNaN (pS 0x3f800000) = false := by decide +kernel

/-- A single below ones in an x register of 64 bits is read without a box check, and a double from a pair. -/
theorem test_zfinx_ignores_upper_bits :
    ({ sZ64 with x := sZ64.x.set 5 0xdeadbeef3f800000 } : State).readFp .s 5 = pS 0x3f800000 ∧
    sZ32.readFp .d 2 = pD 0x400000003fc00000 := by decide +kernel

theorem witness_ZfinxOperandForms : (sZ64.cfg.ext.zfinx = true ∧ Fmt.width .d ≤ sZ64.xlen ∧ (31#5 : Reg) ≠ 0) ∧
    sZ32.cfg.ext.zfinx = true ∧ sZ32.cfg.xlen = .rv32 ∧ Fmt.width .s ≤ sZ32.xlen ∧ (30#5 : Reg).toNat % 2 = 0 := by decide

/-- A zero, the least and the greatest subnormal number, the least normal number, the largest finite number. -/
theorem witness_PatternValues : expOf (pS 0) = 0 ∧ isSubnormal (pS 1) = true ∧ isSubnormal (pS 0x807fffff) = true ∧
    0 < expOf (pS 0x00800000) ∧ isFinite (pS 0x00800000) = true ∧ isFinite (pS 0x7f7fffff) = true := by decide +kernel

theorem witness_RoundingChoosesOneCandidate : (0 : ℚ) < 1 / 8 ∧ (3 / 8 : ℚ) = (3 : ℤ) * (1 / 8) := by norm_num

/-- One third in S: between 2^-2 and 2^-1, the candidate 11184811 * 2^-25 under RNE; and 2^128, which overflows. -/
theorem witness_RoundingIsCorrect : 0 < 1 ∧ 0 < 3 ∧ ratioRat false 1 3 0 = 1 / 3 ∧
    (2 : ℚ) ^ (-2 : ℤ) ≤ |1 / 3| ∧ |(1 : ℚ) / 3| < 2 ^ (-2 + 1 : ℤ) ∧
    Chosen .rne (1 / 3) ((2 : ℚ) ^ (max (-2) (Fmt.emin .s) - (Fmt.fracBits .s : ℤ))) 11184811 ∧
    |((11184811 : ℤ) : ℚ) * (2 : ℚ) ^ (max (-2) (Fmt.emin .s) - (Fmt.fracBits .s : ℤ))| < 2 ^ (Fmt.emax .s + 1) := by
  norm_num [ratioRat, Chosen, Fmt.emin, Fmt.emax, Fmt.bias, Fmt.expBits, Fmt.fracBits, abs_of_pos, abs_of_neg]

theorem witness_overflow : (2 : ℚ) ^ (128 : ℤ) ≤ |2 ^ (128 : ℤ)| ∧ |(2 : ℚ) ^ (128 : ℤ)| < 2 ^ (128 + 1 : ℤ) ∧
    Chosen .rtz (2 ^ (128 : ℤ)) ((2 : ℚ) ^ (max 128 (Fmt.emin .s) - (Fmt.fracBits .s : ℤ))) 8388608 ∧
    (2 : ℚ) ^ (Fmt.emax .s + 1) ≤ |((8388608 : ℤ) : ℚ) * (2 : ℚ) ^ (max 128 (Fmt.emin .s) - (Fmt.fracBits .s : ℤ))| := by
  norm_num [Chosen, Fmt.emin, Fmt.emax, Fmt.bias, Fmt.expBits, Fmt.fracBits, abs_of_pos]

/-- 1.5 and 0.5 are finite, their sum is 2, in [2^1, 2^2). -/
theorem witness_OperationsAreCorrectlyRounded : isFinite (pS 0x3fc00000) = true ∧
    isFinite (pS 0x3f000000) = true ∧ isZero (pS 0x3f000000) = false ∧
    ratOf (pS 0x3fc00000) + ratOf (pS 0x3f000000) = 2 ∧
    (2 : ℚ) ^ (1 : ℤ) ≤ |2| ∧ |(2 : ℚ)| < 2 ^ (1 + 1 : ℤ) ∧
    Chosen .rup 2 ((2 : ℚ) ^ (max 1 (Fmt.emin .s) - (Fmt.fracBits .s : ℤ))) 8388608 := by
  refine ⟨by decide, by decide, by decide, by decide +kernel, ?_⟩
  norm_num [Chosen, Fmt.emin, Fmt.bias, Fmt.expBits, Fmt.fracBits]

/-- The root of 2; and the exact root of 1, which is 4^0, with the multiple 2^23 of the spacing 2^-23. -/
theorem witness_SquareRootIsCorrect : (isFinite (pS 0x40000000) = true ∧
      signOf (pS 0x40000000) = false ∧ isZero (pS 0x40000000) = false ∧
      (4 : ℚ) ^ (0 : ℤ) ≤ ratOf (pS 0x40000000) ∧ ratOf (pS 0x40000000) < 4 ^ (0 + 1 : ℤ)) ∧
    (isFinite (pS 0x3f800000) = true ∧ signOf (pS 0x3f800000) = false ∧ isZero (pS 0x3f800000) = false ∧
      (4 : ℚ) ^ (0 : ℤ) ≤ ratOf (pS 0x3f800000) ∧ ratOf (pS 0x3f800000) < 4 ^ (0 + 1 : ℤ) ∧
      ((8388608 : ℤ) * (2 : ℚ) ^ ((0 : ℤ) - Fmt.fracBits .s)) * ((8388608 : ℤ) * (2 : ℚ) ^ ((0 : ℤ) - Fmt.fracBits .s)) =
        ratOf (pS 0x3f800000)) := by
  decide +kernel

/-- The root of 1 is 1 with no flag in every mode, and not the number below it. -/
theorem test_sqrt_of_one : ∀ m ∈ [Mode.rne, .rtz, .rdn, .rup, .rmm], fsqrt .s m (pS 0x3f800000) = (pS 0x3f800000, 0#5) := by
  decide +kernel

theorem witness_NaNResultsAreCanonical :
    isNaN (fsqrt .s .rne (pS 0xbf800000)).1 = true ∧
    isNaN (fadd .s .rne (pS 0x7f800000) (pS 0xff800000)).1 = true := by decide +kernel

/-- NaNs of both kinds, infinities of both signs, a zero, a negative number: every clause has operands among them. In
the fused clauses an infinite product meets an infinite addend of unlike and of like effective sign, and a finite
one. -/
theorem witness_NaNsInvalidOperationsAndInfinities :
    isNaN (pS 0x7fc00000) = true ∧ isNaN (pS 0x7f800001) = true ∧
    (isInf (pS 0x7f800000) = true ∧ isInf (pS 0xff800000) = true ∧ isNaN (pS 0x7f800000) = false ∧
      isZero (pS 0x7f800000) = false ∧ signOf (pS 0x7f800000) = false ∧ signOf (pS 0xff800000) = true) ∧
    isZero (pS 0x80000000) = true ∧
    (isNaN (pS 0x80000001) = false ∧ isZero (pS 0x80000001) = false ∧
      signOf (pS 0x80000001) = true ∧ isFinite (pS 0x80000001) = true) ∧
    ((signOf (pS 0x7f800000) != signOf (pS 0x7f800000)) != false) ≠ (signOf (pS 0xff800000) != false) ∧
    ((signOf (pS 0x7f800000) != signOf (pS 0x80000001)) != false) = (signOf (pS 0xff800000) != false) := by
  decide +kernel

/-- 2^-149 and its negation, whose sum is zero; zeros of one sign; 1 * 1 - 1, whose fused sum is zero; a zero product
with a zero addend. -/
theorem witness_ExactZeroResults :
    (isFinite (pS 1) = true ∧ ratOf (pS 1) + ratOf (pS 0x80000001) = 0 ∧ signOf (pS 1) ≠ signOf (pS 0x80000001) ∧
      ratOf (pS 1) - ratOf (pS 1) = 0) ∧
    (isZero (pS 0x80000000) = true ∧ ratOf (pS 0x80000000) + ratOf (pS 0x80000000) = 0 ∧ isZero (pS 1) = false) ∧
    ratOf (pS 0x3f800000) * ratOf (pS 0x3f800000) + -1 * ratOf (pS 0x3f800000) = 0 ∧
    ratOf (pS 0x3f800000) * ratOf (pS 0) + ratOf (pS 0x80000000) = 0 := by decide +kernel

theorem witness_ExactConversions : isFinite (pH 0x03ff) = true ∧ IntFmt.width .wu = 32 ∧
    isFinite (pB 0xff7f) = true ∧ isNaN (pB 0xff80) = false := by decide +kernel

/-- 1.5 with its choice 2 under RNE; a zero; an infinity; a NaN. -/
theorem witness_RoundToIntegralIsCorrect : isFinite (pS 0x3fc00000) = true ∧
    ratOf (pS 0x3fc00000) = 3 / 2 ∧ Chosen .rne (3 / 2) 1 2 ∧ isZero (pS 0x80000000) = true ∧
    isInf (pS 0xff800000) = true ∧ isNaN (pS 0x7f800001) = true := by
  refine ⟨by decide, by decide +kernel, ?_, by decide +kernel⟩
  norm_num [Chosen, abs_of_neg]

theorem witness_FliConstantsHaveTheirValues : (28, 32768) ∈ [((0 : BitVec 5), (-1 : ℚ)), (28, 32768)] ∧
    Fmt.h ∈ [Fmt.s, .d, .q, .h] ∧ Fmt.q ≠ .h := by decide

end Sys2Proof.Tests
end

/-!
The shapes of the meanings: every instruction's meaning is one of the shared shapes of Machine/Forms.lean, at the
destination that `dest` names. A law of every instruction is then a case split over the eighteen shapes.
-/

namespace Sys2Proof.Machine

/-- `Shaped i m`: the function `m` from states to outcomes is a shared shape, taken at the instruction `i` and at its
destination. Formats, operations and operand fields are free, but the same in every state. -/
inductive Shaped (i : Instr) : (State → Outcome) → Prop
  | load {fmt rd rs1 imm} (hd : dest i = .f rd) : Shaped i (load i fmt rd rs1 imm)
  | store {fmt rs2 rs1 imm} (hd : dest i = .mem fmt rs1 imm) : Shaped i (store i fmt rs2 rs1 imm)
  | rounded1 {fmt op rd rs1 rm} (hd : dest i = .fp fmt rd) : Shaped i (rounded1 i fmt op rd rs1 rm)
  | rounded2 {fmt op rd rs1 rs2 rm} (hd : dest i = .fp fmt rd) : Shaped i (rounded2 i fmt op rd rs1 rs2 rm)
  | fused {fmt negp negc rd rs1 rs2 rs3 rm} (hd : dest i = .fp fmt rd) :
      Shaped i (fused i fmt negp negc rd rs1 rs2 rs3 rm)
  | unrounded2 {fmt op rd rs1 rs2} (hd : dest i = .fp fmt rd) : Shaped i (unrounded2 i fmt op rd rs1 rs2)
  | compareFp {fmt op rd rs1 rs2} (hd : dest i = .x rd) : Shaped i (compareFp i fmt op rd rs1 rs2)
  | classify {fmt rd rs1} (hd : dest i = .x rd) : Shaped i (classify i fmt rd rs1)
  | fpToInt {fmt ity rd rs1 rm} (hd : dest i = .x rd) : Shaped i (fpToInt i fmt ity rd rs1 rm)
  | intToFp {fmt ity rd rs1 rm} (hd : dest i = .fp fmt rd) : Shaped i (intToFp i fmt ity rd rs1 rm)
  | fpToFp {dst src rd rs1 rm} (hd : dest i = .fp dst rd) : Shaped i (fpToFp i dst src rd rs1 rm)
  | modularConvert {rd rs1} (hd : dest i = .x rd) : Shaped i (modularConvert i rd rs1)
  | moveToX {fmt rd rs1} (hd : dest i = .x rd) : Shaped i (moveToX i fmt rd rs1)
  | moveFromX {fmt rd rs1} (hd : dest i = .f rd) : Shaped i (moveFromX i fmt rd rs1)
  | moveHighToX {n rd rs1} (hd : dest i = .x rd) : Shaped i (moveHighToX i n rd rs1)
  | movePairFromX {fmt n rd rs1 rs2} (hd : dest i = .f rd) : Shaped i (movePairFromX i fmt n rd rs1 rs2)
  | loadConstant {fmt rd k} (hd : dest i = .f rd) : Shaped i (loadConstant i fmt rd k)
  | csrAccess {rd csr write} {new : State → XWord → XWord} (hd : dest i = .csr rd csr) :
      Shaped i (fun s => csrAccess i rd csr write (new s) s)

/-- Every row of the opcode table has a shared shape as its meaning. -/
theorem exec_shaped (i : Instr) : Shaped i (exec i) := by
  cases i with
  | flw | fld | flq | flh => exact .load rfl
  | fsw | fsd | fsq | fsh => exact .store rfl
  | fsqrtS | fsqrtD | fsqrtQ | fsqrtH | froundS | froundnxS | froundD | froundnxD | froundH
    | froundnxH | froundQ | froundnxQ => exact .rounded1 rfl
  | faddS | fsubS | fmulS | fdivS | faddD | fsubD | fmulD | fdivD | faddQ | fsubQ | fmulQ
    | fdivQ | faddH | fsubH | fmulH | fdivH => exact .rounded2 rfl
  | fmaddS | fmsubS | fnmsubS | fnmaddS | fmaddD | fmsubD | fnmsubD | fnmaddD | fmaddQ | fmsubQ
    | fnmsubQ | fnmaddQ | fmaddH | fmsubH | fnmsubH | fnmaddH => exact .fused rfl
  | fminS | fmaxS | fsgnjS | fsgnjnS | fsgnjxS | fminD | fmaxD | fsgnjD | fsgnjnD | fsgnjxD
    | fminQ | fmaxQ | fsgnjQ | fsgnjnQ | fsgnjxQ | fminH | fmaxH | fsgnjH | fsgnjnH | fsgnjxH
    | fminmS | fmaxmS | fminmD | fmaxmD | fminmH | fmaxmH | fminmQ | fmaxmQ => exact .unrounded2 rfl
  | feqS | fltS | fleS | feqD | fltD | fleD | feqQ | fltQ | fleQ | feqH | fltH | fleH | fleqS
    | fltqS | fleqD | fltqD | fleqH | fltqH | fleqQ | fltqQ => exact .compareFp rfl
  | fclassS | fclassD | fclassQ | fclassH => exact .classify rfl
  | fcvtWS | fcvtWuS | fcvtLS | fcvtLuS | fcvtWD | fcvtWuD | fcvtLD | fcvtLuD | fcvtWQ
    | fcvtWuQ | fcvtLQ | fcvtLuQ | fcvtWH | fcvtWuH | fcvtLH | fcvtLuH => exact .fpToInt rfl
  | fcvtSW | fcvtSWu | fcvtSL | fcvtSLu | fcvtDW | fcvtDWu | fcvtDL | fcvtDLu | fcvtQW
    | fcvtQWu | fcvtQL | fcvtQLu | fcvtHW | fcvtHWu | fcvtHL | fcvtHLu => exact .intToFp rfl
  | fcvtSD | fcvtDS | fcvtSQ | fcvtQS | fcvtDQ | fcvtQD | fcvtSH | fcvtHS | fcvtDH | fcvtHD
    | fcvtQH | fcvtHQ | fcvtBf16S | fcvtSBf16 => exact .fpToFp rfl
  | fcvtmodWD => exact .modularConvert rfl
  | fmvXW | fmvXD | fmvXH => exact .moveToX rfl
  | fmvWX | fmvDX | fmvHX => exact .moveFromX rfl
  | fmvhXD | fmvhXQ => exact .moveHighToX rfl
  | fmvpDX | fmvpQX => exact .movePairFromX rfl
  | fliS | fliD | fliH | fliQ => exact .loadConstant rfl
  | csrrw _ _ rs1 => exact .csrAccess (write := true) (new := fun s _ => s.readX rs1) rfl
  | csrrs _ _ rs1 => exact .csrAccess (write := rs1 != 0) (new := fun s t => t ||| s.readX rs1) rfl
  | csrrc _ _ rs1 => exact .csrAccess (write := rs1 != 0) (new := fun s t => t &&& ~~~s.readX rs1) rfl
  | csrrwi _ _ uimm => exact .csrAccess (write := true) (new := fun _ _ => uimm.setWidth 64) rfl
  | csrrsi _ _ uimm => exact .csrAccess (write := uimm != 0) (new := fun _ t => t ||| uimm.setWidth 64) rfl
  | csrrci _ _ uimm => exact .csrAccess (write := uimm != 0) (new := fun _ t => t &&& ~~~uimm.setWidth 64) rfl

end Sys2Proof.Machine

/-!
The advance of the pc (10_state.md R23) and the pc a fault reports (60_exceptions.md R517).
-/

namespace Sys2Proof.Machine

/-- What R23 and R517 say of the pc in an answer from the state `s`; a refusal ends the run and has no pc. -/
def PcRule (s : State) : Outcome → Prop
  | .next t => t.pc = s.trunc (s.pc + 4)
  | .fault (.trap _ p) => p = s.pc
  | .refused _ => True

theorem pcRule_iff (s : State) (o : Outcome) :
    PcRule s o ↔ (∀ t, o = .next t → t.pc = s.trunc (s.pc + 4)) ∧ (∀ e p, o = .fault (.trap e p) → p = s.pc) := by
  match o with
  | .next t => simp [PcRule]
  | .fault (.trap e p) => simp [PcRule]
  | .refused r => simp [PcRule]

theorem raise_pcRule (e : Exception) (s : State) : PcRule s (raise e s) := rfl

theorem raiseIllegal_pcRule (i : Instr) (s : State) : PcRule s (raiseIllegal i s) := rfl

/-- A completion advances the pc of `s` when the writes before it left XLEN and the pc alone. -/
theorem complete_pcRule {s u : State} (hcfg : u.cfg = s.cfg) (hpc : u.pc = s.pc) : PcRule s (complete u) := by
  change u.trunc (u.pc + 4) = s.trunc (s.pc + 4)
  rw [hpc, State.trunc_congr hcfg]

theorem completeFp_pcRule (fmt : Fmt) (rd : Reg) (r : Result fmt) (s : State) :
    PcRule s (completeFp fmt rd r s) := complete_pcRule (by simp) (by simp)

theorem completeX_pcRule (rd : Reg) (v : XWord) (fl : FlagSet) (s : State) :
    PcRule s (completeX rd v fl s) := complete_pcRule (by simp) (by simp)

theorem completeWriteX_pcRule (rd : Reg) (v : XWord) (s : State) : PcRule s (complete (s.writeX rd v)) :=
  complete_pcRule (by simp) (by simp)

theorem completeWriteF_pcRule (rd : Reg) (v : FWord) (s : State) : PcRule s (complete (s.writeF rd v)) :=
  complete_pcRule rfl rfl

theorem checked_pcRule {i : Instr} {s : State} {e : Outcome} (h : PcRule s e) : PcRule s (checked i s e) := by
  unfold checked
  split
  · exact h
  · exact raiseIllegal_pcRule i s

theorem rounding_pcRule {i : Instr} {rm : BitVec 3} {s : State} {k : Mode → Outcome} (h : ∀ m, PcRule s (k m)) :
    PcRule s (rounding i rm s k) := by
  unfold rounding
  apply checked_pcRule
  split
  · exact h _
  · exact raiseIllegal_pcRule i s

theorem load_pcRule (i : Instr) (fmt : Fmt) (rd rs1 : Reg) (imm : BitVec 12) (s : State) :
    PcRule s (load i fmt rd rs1 imm s) := by
  apply checked_pcRule
  dsimp only
  split
  · exact raise_pcRule _ s
  · split
    · exact completeWriteF_pcRule _ _ s
    · exact raise_pcRule _ s

theorem store_pcRule (i : Instr) (fmt : Fmt) (rs2 rs1 : Reg) (imm : BitVec 12) (s : State) :
    PcRule s (store i fmt rs2 rs1 imm s) := by
  apply checked_pcRule
  dsimp only
  split
  · exact raise_pcRule _ s
  · split
    · split
      · trivial
      · exact complete_pcRule rfl rfl
    · exact raise_pcRule _ s

theorem csrAccess_pcRule (i : Instr) (rd : Reg) (csr : BitVec 12) (write : Bool) (new : XWord → XWord) (s : State) :
    PcRule s (csrAccess i rd csr write new s) := by
  unfold csrAccess
  split
  · trivial
  · apply checked_pcRule
    cases write
    · exact completeWriteX_pcRule _ _ s
    · exact complete_pcRule (by simp) (by simp)

/-- Every shape keeps to the pc rule: its effects write registers, flags, CSRs or memory before the one advance. -/
theorem Shaped.pcRule {i : Instr} {m : State → Outcome} (h : Shaped i m) (s : State) : PcRule s (m s) := by
  cases h with
  | load => exact load_pcRule i _ _ _ _ s
  | store => exact store_pcRule i _ _ _ _ s
  | rounded1 => exact rounding_pcRule fun _ => completeFp_pcRule _ _ _ s
  | rounded2 => exact rounding_pcRule fun _ => completeFp_pcRule _ _ _ s
  | fused => exact rounding_pcRule fun _ => completeFp_pcRule _ _ _ s
  | unrounded2 => exact checked_pcRule (completeFp_pcRule _ _ _ s)
  | compareFp => exact checked_pcRule (completeX_pcRule _ _ _ s)
  | classify => exact checked_pcRule (completeX_pcRule _ _ _ s)
  | fpToInt => exact rounding_pcRule fun _ => complete_pcRule (by simp) (by simp)
  | intToFp => exact rounding_pcRule fun _ => completeFp_pcRule _ _ _ s
  | fpToFp => exact rounding_pcRule fun _ => completeFp_pcRule _ _ _ s
  | modularConvert => exact checked_pcRule (completeX_pcRule _ _ _ s)
  | moveToX => exact checked_pcRule (completeWriteX_pcRule _ _ s)
  | moveFromX => exact checked_pcRule (completeWriteF_pcRule _ _ s)
  | moveHighToX => exact checked_pcRule (completeWriteX_pcRule _ _ s)
  | movePairFromX => exact checked_pcRule (completeWriteF_pcRule _ _ s)
  | loadConstant => exact checked_pcRule (completeWriteF_pcRule _ _ s)
  | csrAccess => exact csrAccess_pcRule i _ _ _ _ s

/-- Settles O12: each meaning is one of the shared shapes, and each shape keeps to the pc rule. -/
theorem instructionsAdvancePc : Obligations.InstructionsAdvancePc :=
  fun i s => (pcRule_iff s (exec i s)).1 ((exec_shaped i).pcRule s)

end Sys2Proof.Machine

/-!
The three CSR numbers as views of frm and fflags (10_state.md R27, R31).
-/

namespace Sys2Proof.Machine

/-- The fields of fcsr one after the other, in either grouping (R27). -/
theorem State.fcsr_eq_append (s : State) : s.fcsr = 0#24 ++ s.frm ++ s.fflags :=
  (BitVec.append_assoc (x₁ := 0#24)).symm

/-- Bits 31:8 of fcsr are zero above the eight bits of frm and fflags (R27, R31). -/
theorem State.fcsr_eq_setWidth (s : State) : s.fcsr = (s.frm ++ s.fflags).setWidth 32 :=
  (BitVec.setWidth_eq_append (by decide)).symm

/-- A read of fcsr sees the eight bits of frm and fflags and zeros above them (R31). -/
theorem State.readCsr_fcsr (s : State) : s.readCsr .fcsr = (s.frm ++ s.fflags).setWidth 64 := by
  simp [State.readCsr, State.fcsr_eq_setWidth]

/-- Settles O45: a read after a write, by the fields of fcsr that the two CSR numbers name. -/
theorem fcsrViewsAgree : Obligations.FcsrViewsAgree := by
  intro s v
  have adjacent : v.extractLsb' 5 3 ++ v.extractLsb' 0 5 = v.extractLsb' 0 8 :=
    BitVec.extractLsb'_append_extractLsb'_eq_extractLsb' rfl
  refine ⟨congrArg (·.setWidth 64) s.fcsr_eq_append, ?_, rfl, rfl, rfl, ?_, rfl, ?_⟩
  · rw [State.readCsr_fcsr]
    exact congrArg (·.setWidth 64) adjacent
  · exact State.readCsr_fcsr _
  · exact State.readCsr_fcsr _

end Sys2Proof.Machine

/-!
Instructions that raise IllegalInstruction: those that fail a check of the configuration, and those whose rounding
mode does not resolve (30_encoding.md R106, R108, R113).
-/

namespace Sys2Proof.Machine

/-- A CSR access to one of the three numbers names a CSR (10_state.md R32). -/
theorem exists_csrOf_of_csrKnown {i : Instr} {rd : Reg} {csr : BitVec 12} (hd : dest i = .csr rd csr)
    (hk : csrKnown i = true) : ∃ c, csrOf csr = some c := by
  simp only [csrKnown, hd, csrInScope, Bool.or_eq_true, beq_iff_eq] at hk
  obtain (rfl | rfl) | rfl := hk
  · exact ⟨.fflags, rfl⟩
  · exact ⟨.frm, rfl⟩
  · exact ⟨.fcsr, rfl⟩

/-- Every shape makes the checks of R106 first; a CSR access looks at its number before them (48_csr_access.md
R499). -/
theorem Shaped.of_not_legal {i : Instr} {m : State → Outcome} {s : State} (h : Shaped i m) (hl : legal i s = false)
    (hk : csrKnown i = true) : m s = illegalOutcome i s := by
  cases h with
  | load | store | rounded1 | rounded2 | fused | unrounded2 | compareFp | classify | fpToInt | intToFp | fpToFp
    | modularConvert | moveToX | moveFromX | moveHighToX | movePairFromX | loadConstant => exact checked_of_not_legal hl
  | csrAccess hd =>
    obtain ⟨c, hc⟩ := exists_csrOf_of_csrKnown hd hk
    simp only [Machine.csrAccess, hc]
    exact checked_of_not_legal hl

/-- An instruction that fails a check of R106 raises, whatever its meaning would be. -/
theorem exec_of_not_legal {i : Instr} {s : State} (hl : legal i s = false) (hk : csrKnown i = true) :
    exec i s = illegalOutcome i s := (exec_shaped i).of_not_legal hl hk

/-- Check 2 of R106 is one of those that `legal` makes. -/
theorem legal_of_not_extHolds {i : Instr} {s : State} (h : (conditions i).extHolds s.cfg.ext = false) :
    legal i s = false := by
  simp [legal, h]

/-! ## Rounding modes (30_encoding.md R99, R108) -/

/-- An `rm` field is a rounding-mode operand: the meaning resolves it before it has any effect. -/
theorem exec_eq_rounding {i : Instr} {rm : BitVec 3} (h : rmField i = some rm) (s : State) :
    ∃ k : Mode → Outcome, exec i s = rounding i rm s k := by
  cases i with
  | faddS | fsubS | fmulS | fdivS | fsqrtS | fmaddS | fmsubS | fnmsubS | fnmaddS | fcvtWS | fcvtWuS | fcvtLS
    | fcvtLuS | fcvtSW | fcvtSWu | fcvtSL | fcvtSLu | faddD | fsubD | fmulD | fdivD | fsqrtD | fmaddD | fmsubD
    | fnmsubD | fnmaddD | fcvtWD | fcvtWuD | fcvtLD | fcvtLuD | fcvtDW | fcvtDWu | fcvtDL | fcvtDLu | fcvtSD
    | fcvtDS | faddQ | fsubQ | fmulQ | fdivQ | fsqrtQ | fmaddQ | fmsubQ | fnmsubQ | fnmaddQ | fcvtWQ | fcvtWuQ
    | fcvtLQ | fcvtLuQ | fcvtQW | fcvtQWu | fcvtQL | fcvtQLu | fcvtSQ | fcvtQS | fcvtDQ | fcvtQD | faddH | fsubH
    | fmulH | fdivH | fsqrtH | fmaddH | fmsubH | fnmsubH | fnmaddH | fcvtWH | fcvtWuH | fcvtLH | fcvtLuH | fcvtHW
    | fcvtHWu | fcvtHL | fcvtHLu | fcvtSH | fcvtHS | fcvtDH | fcvtHD | fcvtQH | fcvtHQ | froundS | froundnxS
    | froundD | froundnxD | froundH | froundnxH | froundQ | froundnxQ | fcvtBf16S | fcvtSBf16 =>
    obtain rfl := Option.some.inj h
    exact ⟨_, rfl⟩
  | _ => cases h

/-- The code in force: the `rm` field, or frm where the field says so. -/
theorem State.resolveMode_eq (s : State) (rm : BitVec 3) :
    s.resolveMode rm = modeOf (if rm = 0b111#3 then s.frm else rm) := (apply_ite modeOf _ _ _).symm

theorem modeOf_eq_none {c : BitVec 3} (h : 0b100#3 < c) : modeOf c = none := by
  revert c; decide

/-- The reserved codes, static or dynamic, are those that select no mode. -/
theorem State.resolveMode_reserved {s : State} {rm : BitVec 3}
    (h : rm = 0b101#3 ∨ rm = 0b110#3 ∨ (rm = 0b111#3 ∧ (s.frm = 0b101#3 ∨ s.frm = 0b110#3 ∨ s.frm = 0b111#3))) :
    s.resolveMode rm = none := by
  obtain rfl | rfl | ⟨rfl, hfrm⟩ := h
  · rfl
  · rfl
  · rw [State.resolveMode_eq, if_pos rfl]
    obtain hfrm | hfrm | hfrm := hfrm <;> rw [hfrm] <;> rfl

/-- Settles O21: a reserved code selects no mode, and an instruction without a mode raises. -/
theorem reservedRoundingModeIsIllegal : Obligations.ReservedRoundingModeIsIllegal := by
  refine ⟨fun i s rm hrm hreserved => ?_, fun s rm => ?_⟩
  · obtain ⟨k, hk⟩ := exec_eq_rounding hrm s
    rw [hk]
    exact rounding_of_no_mode (State.resolveMode_reserved hreserved)
  · rw [State.resolveMode_eq]
    refine ⟨?_, ?_, ?_, ?_, ?_, modeOf_eq_none⟩ <;> exact fun hcode => congrArg modeOf hcode

/-! ## The transfers under Zfinx (30_encoding.md R113) -/

/-- The members of EXT that work on f registers (00_scope.md R4). -/
def fRegisterExts : List Ext := [.f, .d, .q, .zfh, .zfhmin, .zfa, .zfbfmin]

/-- With Zfinx no extension that works on f registers is there (00_scope.md R4). -/
theorem hasExt_of_mem_fRegisterExts {e : ExtSet} (hwf : e.wf = true) (hz : e.zfinx = true) :
    ∀ x ∈ fRegisterExts, hasExt e x = false := by
  have hexclude : e.familiesExclude = true := by
    simp only [ExtSet.wf, Bool.and_eq_true] at hwf
    exact hwf.right
  simp only [ExtSet.familiesExclude, hz, Bool.true_or, Bool.true_and, Bool.not_eq_true', Bool.or_eq_false_iff]
    at hexclude
  simp [fRegisterExts, hasExt, hexclude]

/-- Whether each set of extensions that gives an instruction its row has a member that works on f registers. -/
def needsFRegisters (i : Instr) : Bool := (conditions i).ext.all fun l => l.any fun x => decide (x ∈ fRegisterExts)

/-- A row of the f-register family alone fails check 2 of R106 under Zfinx. -/
theorem extHolds_of_needsFRegisters {i : Instr} {e : ExtSet} (hwf : e.wf = true) (hz : e.zfinx = true)
    (hi : needsFRegisters i = true) : (conditions i).extHolds e = false := by
  rw [Conditions.extHolds, List.any_eq_false]
  intro l hl hall
  obtain ⟨x, hxl, hx⟩ := List.any_eq_true.1 (List.all_eq_true.1 hi l hl)
  have habsent := hasExt_of_mem_fRegisterExts hwf hz x (of_decide_eq_true hx)
  have hpresent := List.all_eq_true.1 hall x hxl
  exact Bool.false_ne_true (habsent.symm.trans hpresent)

/-- Settles O24: each transfer has its row from the f-register family alone, which Zfinx excludes. -/
theorem transfersAreIllegalUnderZfinx : Obligations.TransfersAreIllegalUnderZfinx := by
  intro rd rs1 rs2 imm s hwf hz i hi
  have raises (hneeds : needsFRegisters i = true) (hk : csrKnown i = true) : exec i s = illegalOutcome i s :=
    exec_of_not_legal (legal_of_not_extHolds (extHolds_of_needsFRegisters hwf hz hneeds)) hk
  simp only [List.mem_cons, List.not_mem_nil, or_false] at hi
  obtain rfl | rfl | rfl | rfl | rfl | rfl | rfl | rfl | rfl | rfl | rfl | rfl := hi <;> exact raises rfl rfl

end Sys2Proof.Machine

/-!
The words of FCVTMOD.W.D with a reserved `rm` field (30_encoding.md R112).
-/

namespace Sys2Proof

/-- The bits outside the rd and rs1 fields: bits 31:20, rm and the major opcode (R91). -/
def fixedBits : Word := 0xfff0707f#32

/-- No row looks at the rd and rs1 fields. -/
theorem fixedBits_and_mask : ∀ r ∈ rows, fixedBits &&& r.mask = r.mask := by decide +kernel

/-- A match is decided by the bits outside the rd and rs1 fields. -/
theorem Row.matches_and_fixedBits {r : Row} (hr : r ∈ rows) (w : Word) :
    r.matches (w &&& fixedBits) = r.matches w := by
  rw [Row.matches, Row.matches, BitVec.and_assoc, fixedBits_and_mask r hr]

/-- A word of a floating-point major opcode that matches no row is illegal (R107). -/
theorem decode_eq_illegal {w : Word} (hrows : ∀ r ∈ rows, r.matches w = false) (hmajor : isFpMajor w = true) :
    decode w = .illegal w := by
  have hnone : rows.find? (fun r => r.matches w) = none :=
    List.find?_eq_none.2 fun r hr => by simp [hrows r hr]
  simp [decode, hnone, hmajor]

/-- The FCVTMOD.W.D pattern with its operand and `rm` fields. -/
def modularConvertWord (rs1 : Reg) (rm : BitVec 3) (rd : Reg) : Word :=
  0b1100001#7 ++ 0b01000#5 ++ rs1 ++ rm ++ rd ++ 0b1010011#7

/-- The fixed bits of the pattern are those of the pattern with zero operands. -/
theorem modularConvertWord_and_fixedBits (rs1 : Reg) (rm : BitVec 3) (rd : Reg) :
    modularConvertWord rs1 rm rd &&& fixedBits = modularConvertWord 0 rm 0 := by
  have hmask : fixedBits = BitVec.allOnes 7 ++ BitVec.allOnes 5 ++ 0#5 ++ BitVec.allOnes 3 ++ 0#5 ++
      BitVec.allOnes 7 := rfl
  rw [hmask, modularConvertWord, BitVec.and_append]
  simp only [BitVec.and_append, BitVec.and_allOnes, BitVec.and_zero]
  rfl

/-- With a reserved `rm` the pattern with zero operands matches no row. -/
theorem not_matches_modularConvertWord_zero :
    ∀ rm : BitVec 3, rm ≠ 0b001#3 → ∀ r ∈ rows, r.matches (modularConvertWord 0 rm 0) = false := by decide +kernel

theorem isFpMajor_modularConvertWord (rs1 : Reg) (rm : BitVec 3) (rd : Reg) :
    isFpMajor (modularConvertWord rs1 rm rd) = true := by
  have hlow : (modularConvertWord rs1 rm rd).extractLsb' 0 7 = 0x53#7 := BitVec.extractLsb'_append_eq_right
  rw [isFpMajor, hlow]
  rfl

/-- R112: a reserved `rm` leaves the pattern without a row. -/
theorem decode_modularConvertWord {rs1 rd : Reg} {rm : BitVec 3} (hrm : rm ≠ 0b001#3) :
    decode (modularConvertWord rs1 rm rd) = .illegal (modularConvertWord rs1 rm rd) := by
  refine decode_eq_illegal (fun r hr => ?_) (isFpMajor_modularConvertWord rs1 rm rd)
  rw [← Row.matches_and_fixedBits hr, modularConvertWord_and_fixedBits]
  exact not_matches_modularConvertWord_zero rm hrm r hr

end Sys2Proof

namespace Sys2Proof.Machine

/-- Behind its four checks a step performs the word at the pc (00_scope.md R8). -/
theorem step_eq_perform {s : State} (hwf : s.cfg.wf = true) (hpc : s.pc.toNat % 4 = 0)
    (hend : s.pc.toNat ≠ s.cfg.progEnd % 2 ^ s.xlen) (hmem : ∀ k < 4, s.mapped (s.byteAddr s.pc k) = true) :
    step s = perform (decode (fetchWord s)) s := by
  have hmapped : fetchMapped s = true := by
    simpa [fetchMapped, State.allMapped] using hmem
  simp [step, hwf, pcAligned, hpc, isFinal, hend, hmapped]

/-- Settles O7: with a reserved `rm` the fetched word has no row, and it is of the OP-FP major opcode. -/
theorem modularConvertNeedsRtz : Obligations.ModularConvertNeedsRtz := by
  intro s rd rs1 rm hrm hwf hpc hend hmem hword
  have hdecode : decode (fetchWord s) = .illegal (fetchWord s) := by
    rw [hword]
    exact decode_modularConvertWord hrm
  rw [step_eq_perform hwf hpc hend hmem, hdecode]
  rfl

end Sys2Proof.Machine

/-!
When an instruction's checks pass, and the next state it then answers: the layer under every statement that an
instruction completes (30_encoding.md R106, 40_fp_common.md R147).
-/

namespace Sys2Proof.Machine

/-! ## The checks of a legal instruction (30_encoding.md R106) -/

/-- Bit 0 of a register number says whether it is odd (R111). -/
theorem getLsbD_zero_eq_false_iff (r : Reg) : r.getLsbD 0 = false ↔ r.toNat % 2 = 0 := by
  simp [BitVec.getLsbD, Nat.testBit_zero]

@[simp] theorem pairsOk_nil (s : State) : pairsOk s [] = true := by simp [pairsOk]

/-- Check 4 of R106 asks what `pairsOk` says of the row's pairs. -/
theorem Conditions.pairsHold_eq_pairsOk (c : Conditions) (s : State) : c.pairsHold s.cfg = pairsOk s c.pairs := by
  have heven (r : Reg) : (r.getLsbD 0 == false) = (r.toNat % 2 == 0) := by
    rw [Bool.eq_iff_iff, beq_iff_eq, beq_iff_eq, getLsbD_zero_eq_false_iff]
  simp only [Conditions.pairsHold, pairsOk, heven]

/-- An instruction is legal when it is enabled and its row passes checks 2 to 4 of R106. -/
theorem legal_of {i : Instr} {s : State} (hen : s.fpEnabled = true)
    (hext : (conditions i).extHolds s.cfg.ext = true) (hxlen : (conditions i).xlenHolds s.cfg.xlen = true)
    (hpairs : pairsOk s (conditions i).pairs = true) : legal i s = true := by
  simp [legal, hen, hext, hxlen, Conditions.pairsHold_eq_pairsOk, hpairs]

section
variable {s : State} {x : Option Xlen} {ps : List Reg}

/-- Check 2 of R106 for the arithmetic rows of S: F or Zfinx. -/
theorem extHolds_single (h : hasS s = true) : Conditions.extHolds ⟨[[.f], [.zfinx]], x, ps⟩ s.cfg.ext = true := by
  simpa [Conditions.extHolds, hasExt, hasS] using h

/-- Check 2 of R106 for the arithmetic rows of D: D or Zdinx. -/
theorem extHolds_double (h : hasD s = true) : Conditions.extHolds ⟨[[.d], [.zdinx]], x, ps⟩ s.cfg.ext = true := by
  simpa [Conditions.extHolds, hasExt, hasD] using h

/-- Check 2 of R106 for the rows of Q. -/
theorem extHolds_quad (h : hasQ s = true) : Conditions.extHolds ⟨[[.q]], x, ps⟩ s.cfg.ext = true := by
  simpa [Conditions.extHolds, hasExt, hasQ] using h

/-- Check 2 of R106 for the arithmetic rows of H: Zfh or Zhinx. -/
theorem extHolds_half (h : hasH s = true) : Conditions.extHolds ⟨[[.zfh], [.zhinx]], x, ps⟩ s.cfg.ext = true := by
  simpa [Conditions.extHolds, hasExt, hasH] using h

/-- Check 2 of R106 for the rows of Zfa in S. -/
theorem extHolds_zfa (h : s.cfg.ext.zfa = true) : Conditions.extHolds ⟨[[.zfa]], x, ps⟩ s.cfg.ext = true := by
  simpa [Conditions.extHolds, hasExt] using h

/-- Check 2 of R106 for the rows of Zfa in D, Q and H, which need a second extension `e`. -/
theorem extHolds_zfa_and {e : Ext} (h : s.cfg.ext.zfa = true) (he : hasExt s.cfg.ext e = true) :
    Conditions.extHolds ⟨[[.zfa, e]], x, ps⟩ s.cfg.ext = true := by
  have hzfa : hasExt s.cfg.ext .zfa = true := h
  simp [Conditions.extHolds, hzfa, he]

/-- Check 3 of R106 for a row of RV64. -/
theorem xlenHolds_rv64 {ext : List (List Ext)} (h : s.cfg.xlen = .rv64) :
    Conditions.xlenHolds ⟨ext, some .rv64, ps⟩ s.cfg.xlen = true := by
  simp [Conditions.xlenHolds, h]

end

/-! ## The next state of a legal instruction, shape by shape -/

section
variable {i : Instr} {s : State} {fmt : Fmt} {rd rs1 rs2 : Reg}

theorem unrounded2_of_legal {op : Bits fmt → Bits fmt → Result fmt} (h : legal i s = true) :
    unrounded2 i fmt op rd rs1 rs2 s = .next (fpDone s fmt rd (op (s.readFp fmt rs1) (s.readFp fmt rs2))) :=
  checked_of_legal h

/-- A compare writes its bit as the number 0 or 1. -/
theorem compareFp_of_legal {op : CmpOp} (h : legal i s = true) :
    compareFp i fmt op rd rs1 rs2 s =
      .next (xDone s rd (if (fcmp fmt op (s.readFp fmt rs1) (s.readFp fmt rs2)).1 then 1 else 0)
        (fcmp fmt op (s.readFp fmt rs1) (s.readFp fmt rs2)).2) := by
  have hbit (b : Bool) : (BitVec.ofBool b).setWidth 64 = if b then 1#64 else 0#64 := by cases b <;> rfl
  refine (checked_of_legal h).trans ?_
  dsimp only
  rw [hbit]
  rfl

theorem classify_of_legal (h : legal i s = true) :
    classify i fmt rd rs1 s = .next (xDone s rd ((fclass fmt (s.readFp fmt rs1)).setWidth 64) 0) :=
  checked_of_legal h

theorem fpToInt_of_legal {t : IntFmt} {rm : BitVec 3} {mode : Mode} (h : legal i s = true)
    (hm : s.resolveMode rm = some mode) :
    fpToInt i fmt t rd rs1 rm s =
      .next (xDone s rd ((BitVec.ofInt t.width (fcvtInt fmt t mode (s.readFp fmt rs1)).1).signExtend 64)
        (fcvtInt fmt t mode (s.readFp fmt rs1)).2) :=
  rounding_of_legal h hm

end

end Sys2Proof.Machine


/-!
Patterns as a sign and a magnitude: the fields, the classes and the packing of a pattern by the number its bits below
the sign spell (40_fp_common.md R130 to R135).
-/

namespace Sys2Proof.Machine

/-! ## The parameters of a format (R130) -/

theorem Fmt.width_pos (fmt : Fmt) : 0 < fmt.width := by cases fmt <;> decide

theorem Fmt.fracBits_pos (fmt : Fmt) : 0 < fmt.fracBits := by cases fmt <;> decide

theorem Fmt.two_le_expMax (fmt : Fmt) : 2 ≤ fmt.expMax := by cases fmt <;> decide

theorem Fmt.expMax_add_one (fmt : Fmt) : fmt.expMax + 1 = 2 ^ fmt.expBits := Nat.sub_add_cancel Nat.one_le_two_pow

/-- Below the sign stand the trailing significand and the biased exponent. -/
theorem Fmt.two_pow_width_pred (fmt : Fmt) : 2 ^ (fmt.width - 1) = 2 ^ fmt.fracBits * (fmt.expMax + 1) := by
  cases fmt <;> rfl

theorem Fmt.two_pow_width (fmt : Fmt) : 2 ^ fmt.width = 2 * 2 ^ (fmt.width - 1) := by
  rw [← Nat.pow_succ', Nat.succ_eq_add_one, Nat.sub_add_cancel fmt.width_pos]

/-- The quiet bit is the upper half of the trailing significands (R135). -/
theorem Fmt.two_pow_fracBits (fmt : Fmt) : 2 ^ fmt.fracBits = 2 ^ (fmt.fracBits - 1) + 2 ^ (fmt.fracBits - 1) := by
  rw [← Nat.two_mul, ← Nat.pow_succ', Nat.succ_eq_add_one, Nat.sub_add_cancel fmt.fracBits_pos]

theorem Fmt.infMag_add (fmt : Fmt) : fmt.infMag + 2 ^ fmt.fracBits = 2 ^ (fmt.width - 1) := by
  rw [fmt.two_pow_width_pred, infMag]; ring

/-! ## The fields -/

section
variable {fmt : Fmt}

/-- The bits below the sign of a pattern, as a number. -/
def magOf (v : Bits fmt) : Nat := v.toNat % 2 ^ (fmt.width - 1)

theorem magOf_lt (v : Bits fmt) : magOf v < 2 ^ (fmt.width - 1) := Nat.mod_lt _ (by positivity)

/-- The sign bit stands above the magnitude. -/
theorem toNat_eq_sign_mag (v : Bits fmt) : v.toNat = (signOf v).toNat * 2 ^ (fmt.width - 1) + magOf v := by
  have hlt := v.isLt
  rw [fmt.two_pow_width] at hlt
  rw [signOf, BitVec.msb_eq_decide, magOf]
  by_cases h : 2 ^ (fmt.width - 1) ≤ v.toNat
  · rw [Nat.mod_eq_sub_mod h, Nat.mod_eq_of_lt (by omega)]
    simp [h]
  · rw [Nat.mod_eq_of_lt (by omega)]
    simp [h]

theorem expOf_eq_magOf_div (v : Bits fmt) : expOf v = magOf v / 2 ^ fmt.fracBits := by
  rw [expOf, magOf, fmt.two_pow_width_pred, Nat.mod_mul_right_div_self, fmt.expMax_add_one]

theorem fracOf_eq_magOf_mod (v : Bits fmt) : fracOf v = magOf v % 2 ^ fmt.fracBits := by
  rw [fracOf, magOf, fmt.two_pow_width_pred, Nat.mod_mul_right_mod]

theorem magOf_eq (v : Bits fmt) : magOf v = expOf v * 2 ^ fmt.fracBits + fracOf v := by
  rw [expOf_eq_magOf_div, fracOf_eq_magOf_mod, Nat.div_add_mod']

theorem fracOf_lt (v : Bits fmt) : fracOf v < 2 ^ fmt.fracBits := Nat.mod_lt _ (by positivity)

theorem expOf_le (v : Bits fmt) : expOf v ≤ fmt.expMax :=
  Nat.le_sub_one_of_lt (Nat.mod_lt _ (by positivity))

/-! ## Packing -/

/-- A pattern is packed from its own sign and magnitude. -/
theorem pack_signOf_magOf (v : Bits fmt) : pack fmt (signOf v) (magOf v) = v := by
  rw [pack, ← toNat_eq_sign_mag, BitVec.ofNat_toNat, BitVec.setWidth_eq]

/-- Sign and magnitude determine a pattern. -/
theorem eq_of_signOf_magOf {v u : Bits fmt} (hs : signOf v = signOf u) (hm : magOf v = magOf u) : v = u := by
  rw [← pack_signOf_magOf v, hs, hm, pack_signOf_magOf]

variable {neg : Bool} {mag : Nat}

theorem toNat_pack (h : mag < 2 ^ (fmt.width - 1)) :
    (pack fmt neg mag).toNat = neg.toNat * 2 ^ (fmt.width - 1) + mag := by
  rw [pack, BitVec.toNat_ofNat, Nat.mod_eq_of_lt]
  rw [fmt.two_pow_width]
  cases neg <;> simp <;> omega

theorem magOf_pack (h : mag < 2 ^ (fmt.width - 1)) : magOf (pack fmt neg mag) = mag := by
  rw [magOf, toNat_pack h, Nat.mul_add_mod', Nat.mod_eq_of_lt h]

theorem signOf_pack (h : mag < 2 ^ (fmt.width - 1)) : signOf (pack fmt neg mag) = neg := by
  rw [signOf, BitVec.msb_eq_decide, toNat_pack h]
  cases neg <;> simp [h]

end

/-! ## The classes by magnitude (R131, R135) -/

section
variable {fmt : Fmt} (v : Bits fmt)

theorem magOf_of_expOf_eq {v : Bits fmt} (h : expOf v = fmt.expMax) : magOf v = fmt.infMag + fracOf v := by
  rw [magOf_eq, h, Fmt.infMag]

theorem magOf_lt_of_expOf_ne {v : Bits fmt} (h : expOf v ≠ fmt.expMax) : magOf v < fmt.infMag := by
  have hE : expOf v + 1 ≤ fmt.expMax := Nat.lt_of_le_of_ne (expOf_le v) h
  calc magOf v = expOf v * 2 ^ fmt.fracBits + fracOf v := magOf_eq v
    _ < (expOf v + 1) * 2 ^ fmt.fracBits := by linarith [fracOf_lt v]
    _ ≤ fmt.infMag := Nat.mul_le_mul_right _ hE

theorem isFinite_iff : isFinite v = true ↔ magOf v < fmt.infMag := by
  by_cases h : expOf v = fmt.expMax
  · simp [isFinite, h, magOf_of_expOf_eq h]
  · simp [isFinite, h, magOf_lt_of_expOf_ne h]

theorem isNaN_iff : isNaN v = true ↔ fmt.infMag < magOf v := by
  by_cases h : expOf v = fmt.expMax
  · simp [isNaN, h, magOf_of_expOf_eq h, Nat.pos_iff_ne_zero]
  · simp [isNaN, h, (magOf_lt_of_expOf_ne h).le]

theorem isInf_iff : isInf v = true ↔ magOf v = fmt.infMag := by
  by_cases h : expOf v = fmt.expMax
  · simp [isInf, h, magOf_of_expOf_eq h]
  · simp [isInf, h, (magOf_lt_of_expOf_ne h).ne]

theorem isZero_iff : isZero v = true ↔ magOf v = 0 := by
  have : 0 < 2 ^ fmt.fracBits := by positivity
  simp [isZero, magOf_eq]

theorem isSNaN_iff : isSNaN v = true ↔ fmt.infMag < magOf v ∧ magOf v < fmt.infMag + 2 ^ (fmt.fracBits - 1) := by
  rw [isSNaN, Bool.and_eq_true, isNaN_iff, decide_eq_true_eq]
  by_cases h : expOf v = fmt.expMax
  · simp [magOf_of_expOf_eq h]
  · simp [(magOf_lt_of_expOf_ne h).le.not_gt]

theorem isQNaN_iff : isQNaN v = true ↔ fmt.infMag + 2 ^ (fmt.fracBits - 1) ≤ magOf v := by
  have hhalf : 0 < 2 ^ (fmt.fracBits - 1) := by positivity
  rw [isQNaN, Bool.and_eq_true, isNaN_iff, decide_eq_true_eq]
  by_cases h : expOf v = fmt.expMax
  · rw [magOf_of_expOf_eq h]
    omega
  · have := magOf_lt_of_expOf_ne h
    omega

/-- A pattern is finite, an infinity or a NaN. -/
theorem isFinite_of_not_isNaN_isInf {v : Bits fmt} (hn : isNaN v = false) (hi : isInf v = false) :
    isFinite v = true := by
  rw [isFinite_iff]
  rw [← Bool.not_eq_true, isNaN_iff] at hn
  rw [← Bool.not_eq_true, isInf_iff] at hi
  omega

theorem isNaN_of_isFinite {v : Bits fmt} (h : isFinite v = true) : isNaN v = false := by
  rw [isFinite_iff] at h
  rw [← Bool.not_eq_true, isNaN_iff]
  omega

theorem isInf_of_isFinite {v : Bits fmt} (h : isFinite v = true) : isInf v = false := by
  rw [isFinite_iff] at h
  rw [← Bool.not_eq_true, isInf_iff]
  omega

theorem isNaN_of_isInf {v : Bits fmt} (h : isInf v = true) : isNaN v = false := by
  rw [isInf_iff] at h
  rw [← Bool.not_eq_true, isNaN_iff]
  omega

theorem isNaN_of_isZero {v : Bits fmt} (h : isZero v = true) : isNaN v = false := by
  rw [isZero_iff] at h
  rw [← Bool.not_eq_true, isNaN_iff]
  omega

/-! ## The special patterns (R131, R133) -/

theorem Fmt.infMag_add_lt (fmt : Fmt) : fmt.infMag + 2 ^ (fmt.fracBits - 1) < 2 ^ (fmt.width - 1) := by
  have hhalf : 0 < 2 ^ (fmt.fracBits - 1) := by positivity
  have := fmt.infMag_add
  have := fmt.two_pow_fracBits
  omega

theorem magOf_cnan : magOf (cnan fmt) = fmt.infMag + 2 ^ (fmt.fracBits - 1) := magOf_pack fmt.infMag_add_lt

@[simp] theorem signOf_cnan : signOf (cnan fmt) = false := signOf_pack fmt.infMag_add_lt

@[simp] theorem isQNaN_cnan : isQNaN (cnan fmt) = true := by rw [isQNaN_iff, magOf_cnan]

@[simp] theorem isNaN_cnan : isNaN (cnan fmt) = true := by
  have hhalf : 0 < 2 ^ (fmt.fracBits - 1) := by positivity
  rw [isNaN_iff, magOf_cnan]
  omega

@[simp] theorem isSNaN_cnan : isSNaN (cnan fmt) = false := by
  rw [← Bool.not_eq_true, isSNaN_iff, magOf_cnan]
  omega

@[simp] theorem signOf_zeroOf {neg : Bool} : signOf (zeroOf fmt neg) = neg := signOf_pack (by positivity)

@[simp] theorem magOf_zeroOf {neg : Bool} : magOf (zeroOf fmt neg) = 0 := magOf_pack (by positivity)

/-- A pattern packed with at most the magnitude of an infinity is no NaN. -/
theorem isNaN_pack {neg : Bool} {mag : Nat} (h : mag ≤ fmt.infMag) : isNaN (pack fmt neg mag) = false := by
  have hlt : mag < 2 ^ (fmt.width - 1) := h.trans_lt ((Nat.le_add_right _ _).trans_lt fmt.infMag_add_lt)
  rw [← Bool.not_eq_true, isNaN_iff, magOf_pack hlt]
  omega

/-- A zero is the zero of its sign. -/
theorem eq_zeroOf_of_isZero {v : Bits fmt} (h : isZero v = true) : v = zeroOf fmt (signOf v) := by
  rw [zeroOf, ← isZero_iff .. |>.1 h, pack_signOf_magOf]

end

end Sys2Proof.Machine

/-!
NaN-boxing: the bits of a box, what a box reads back as, and the canonical NaN for everything that is no box
(40_fp_common.md R137 to R140).
-/

namespace Sys2Proof.Machine

/-! ## The bits of a box (R137) -/

/-- FLEN is one of three widths (10_state.md R24), none above its container. -/
theorem flen_le {flen : Nat} (h : flen ∈ [32, 64, 128]) : flen ≤ 128 := by
  simp only [List.mem_cons, List.not_mem_nil, or_false] at h
  omega

theorem State.flen_mem (s : State) : s.flen ∈ [32, 64, 128] := by
  unfold State.flen
  split
  · simp
  · split <;> simp

section
variable {flen : Nat} {fmt : Fmt}

/-- The value below the format's width, ones up to FLEN, zeros above it. -/
theorem getLsbD_box (hflen : flen ≤ 128) (hw : fmt.width ≤ flen) (v : Bits fmt) (b : Nat) :
    (box flen fmt v).getLsbD b = if b < fmt.width then v.getLsbD b else decide (b < flen) := by
  rw [box, BitVec.getLsbD_setWidth, BitVec.getLsbD_append, BitVec.getLsbD_allOnes]
  by_cases hb : b < fmt.width
  · simp [hb, (hb.trans_le hw).trans_le hflen]
  · have hiff : b - fmt.width < flen - fmt.width ↔ b < flen := by omega
    have : b < flen → b < 128 := fun h => h.trans_le hflen
    simpa [hb, hiff] using this

theorem setWidth_box (hflen : flen ≤ 128) (hw : fmt.width ≤ flen) (v : Bits fmt) :
    (box flen fmt v).setWidth fmt.width = v := by
  apply BitVec.eq_of_getLsbD_eq
  intro b hb
  simp [getLsbD_box hflen hw, hb]

/-- A result as wide as the register stands in it as it is. -/
theorem box_eq_setWidth (hflen : flen ≤ 128) (hw : fmt.width = flen) (v : Bits fmt) :
    box flen fmt v = v.setWidth 128 := by
  apply BitVec.eq_of_getLsbD_eq
  intro b hb
  rw [getLsbD_box hflen hw.le, BitVec.getLsbD_setWidth, ← hw, decide_eq_true hb, Bool.true_and]
  split
  next => rfl
  next hlt => rw [decide_eq_false hlt, BitVec.getLsbD_of_ge v b (not_lt.1 hlt)]

/-- A box fits in FLEN bits. -/
theorem truncF_box {s : State} (hw : fmt.width ≤ s.flen) (v : Bits fmt) :
    s.truncF (box s.flen fmt v) = box s.flen fmt v := by
  have hflen := flen_le s.flen_mem
  apply BitVec.eq_of_getLsbD_eq
  intro b hb
  simp only [State.truncF, BitVec.getLsbD_setWidth, hb, decide_true, Bool.true_and]
  by_cases hb' : b < s.flen
  · simp [hb']
  · have : ¬ b < fmt.width := by omega
    simp [getLsbD_box hflen hw, hb', this]

/-! ## Reading a box (R138) -/

theorem isBoxed_iff (r : FWord) :
    isBoxed flen fmt r = true ↔ ∀ b, fmt.width ≤ b → b < flen → r.getLsbD b = true := by
  rw [isBoxed, beq_iff_eq]
  constructor
  · intro h b hb hb'
    have hbit := congrArg (·.getLsbD (b - fmt.width)) h
    have hlt : b - fmt.width < flen - fmt.width := by omega
    simpa [hlt, Nat.add_sub_cancel' hb] using hbit
  · intro h
    apply BitVec.eq_of_getLsbD_eq
    intro b hb
    simpa [hb] using h (fmt.width + b) (by omega) (by omega)

theorem unbox_of_boxed {r : FWord} (h : ∀ b, fmt.width ≤ b → b < flen → r.getLsbD b = true) :
    unbox flen fmt r = r.setWidth fmt.width := if_pos ((isBoxed_iff r).2 h)

/-- A zero above the format's width spoils the box. -/
theorem unbox_of_not_boxed {r : FWord} (h : ∃ b, fmt.width ≤ b ∧ b < flen ∧ r.getLsbD b = false) :
    unbox flen fmt r = cnan fmt := by
  obtain ⟨b, hb, hb', hbit⟩ := h
  refine if_neg fun hboxed => ?_
  rw [(isBoxed_iff r).1 hboxed b hb hb'] at hbit
  cases hbit

theorem unbox_box (hflen : flen ≤ 128) (hw : fmt.width ≤ flen) (v : Bits fmt) :
    unbox flen fmt (box flen fmt v) = v := by
  rw [unbox_of_boxed, setWidth_box hflen hw]
  intro b hb hb'
  simp [getLsbD_box hflen hw, hb', hb.not_gt]

end

/-! ## A box read in a wider format -/

/-- A narrower value never reaches the quiet bit of a wider format. -/
theorem Fmt.width_lt_fracBits {fmt wide : Fmt} (h : fmt.width < wide.width) : fmt.width < wide.fracBits := by
  revert h
  cases fmt <;> cases wide <;> decide

/-- Ones from the quiet bit up make a quiet NaN with its sign set. -/
theorem isQNaN_of_ones {fmt : Fmt} {v : Bits fmt}
    (h : ∀ b, fmt.fracBits - 1 ≤ b → b < fmt.width → v.getLsbD b = true) : isQNaN v = true ∧ signOf v = true := by
  have hcompl : (~~~v).toNat < 2 ^ (fmt.fracBits - 1) := by
    apply Nat.lt_pow_two_of_testBit
    intro b hb
    rw [BitVec.testBit_toNat, BitVec.getLsbD_not]
    by_cases hb' : b < fmt.width
    · simp [h b hb hb']
    · simp [hb']
  rw [BitVec.toNat_not, fmt.two_pow_width, toNat_eq_sign_mag v] at hcompl
  have hmag := magOf_lt v
  have hinf := fmt.infMag_add
  have hhalf := fmt.two_pow_fracBits
  rw [isQNaN_iff]
  cases hs : signOf v with
  | false =>
    rw [hs, Bool.toNat_false] at hcompl
    exfalso
    omega
  | true =>
    rw [hs, Bool.toNat_true] at hcompl
    exact ⟨by omega, rfl⟩

theorem unbox_box_wider {flen : Nat} {fmt wide : Fmt} (hflen : flen ≤ 128) (hlt : fmt.width < wide.width)
    (hwide : wide.width ≤ flen) (v : Bits fmt) :
    isQNaN (unbox flen wide (box flen fmt v)) = true ∧ signOf (unbox flen wide (box flen fmt v)) = true := by
  have hw : fmt.width ≤ flen := hlt.le.trans hwide
  have hones (b : Nat) (hb : fmt.width ≤ b) (hb' : b < flen) : (box flen fmt v).getLsbD b = true := by
    simp [getLsbD_box hflen hw, hb', hb.not_gt]
  rw [unbox_of_boxed fun b hb hb' => hones b (hlt.le.trans hb) hb']
  apply isQNaN_of_ones
  intro b hb hb'
  have := Fmt.width_lt_fracBits hlt
  rw [BitVec.getLsbD_setWidth, hones b (by omega) (by omega)]
  simp [hb']

/-- Settles O47: everything follows from the bits of a box. -/
theorem nanBoxingOfResults : Obligations.NanBoxingOfResults := by
  intro flen fmt v hmem hw
  have hflen := flen_le hmem
  refine ⟨setWidth_box hflen hw v, fun b hb hb' => ?_, fun b hb => ?_, fun h => box_eq_setWidth hflen h v,
    fun s r hs hx => ?_, unbox_box hflen hw v, fun wide hlt hwide => unbox_box_wider hflen hlt hwide v⟩
  · simp [getLsbD_box hflen hw, hb', hb.not_gt]
  · simp [getLsbD_box hflen hw, hb.not_gt, (hw.trans hb).not_gt]
  · subst hs
    rw [State.writeFp, hx, if_neg Bool.false_ne_true, State.readF_writeF_self, truncF_box hw, truncF_box hw]

/-- Settles O48: the ones above a format's width are what `unbox` checks, and the canonical NaN is quiet. -/
theorem badlyBoxedReadsAsCanonicalNaN : Obligations.BadlyBoxedReadsAsCanonicalNaN := by
  refine ⟨fun flen fmt r _ _ => ⟨unbox_of_not_boxed, unbox_of_boxed, fun mode v hv => ?_⟩,
    fun s fmt r => ⟨rfl, fun hx => ?_⟩⟩
  · simp [fadd, nanResult2, hv, flagIf, noFlags]
  · simp [State.readFp, State.inX, hx]

end Sys2Proof.Machine

/-!
Sign injection (40_fp_common.md R155).
-/

namespace Sys2Proof.Machine

/-- The bits of a packed pattern below the sign are those of its magnitude. -/
theorem getLsbD_pack {fmt : Fmt} {neg : Bool} {mag n : Nat} (h : n < fmt.width - 1) :
    (pack fmt neg mag).getLsbD n = mag.testBit n := by
  have hn : n < fmt.width := by omega
  rw [pack, BitVec.getLsbD_ofNat, decide_eq_true hn, Bool.true_and]
  cases neg with
  | false => simp
  | true => rw [Bool.toNat_true, Nat.one_mul, Nat.testBit_two_pow_add_gt h]

section
variable {fmt : Fmt} (kind : SignKind) (a b : Bits fmt)

/-- A sign injection keeps every bit below the sign. -/
theorem getLsbD_fsgnj {n : Nat} (hn : n < fmt.width - 1) : (fsgnj fmt kind a b).1.getLsbD n = a.getLsbD n := by
  rw [fsgnj, getLsbD_pack hn, Nat.testBit_mod_two_pow, BitVec.testBit_toNat]
  simp [hn]

theorem signOf_fsgnj : signOf (fsgnj fmt kind a b).1 = kind.sign (signOf a) (signOf b) :=
  signOf_pack (magOf_lt a)

end

/-- Settles O33: legal instructions complete, and packing keeps the bits below the sign and sets the sign. -/
theorem signInjectionCompletes : Obligations.SignInjectionCompletes := by
  refine ⟨fun rd rs1 rs2 s hen => ⟨fun hs => ?_, fun hd hp => ?_, fun hq => ?_, fun hh => ?_⟩,
    fun fmt a b => ⟨fun kind => ⟨rfl, fun n hn => getLsbD_fsgnj kind a b hn⟩, signOf_fsgnj .j a b,
      signOf_fsgnj .jn a b, signOf_fsgnj .jx a b⟩,
    fun flen fmt r _ _ hzero => ?_⟩
  · refine ⟨?_, ?_, ?_⟩ <;> exact unrounded2_of_legal (legal_of hen (extHolds_single hs) rfl (pairsOk_nil s))
  · refine ⟨?_, ?_, ?_⟩ <;> exact unrounded2_of_legal (legal_of hen (extHolds_double hd) rfl hp)
  · refine ⟨?_, ?_, ?_⟩ <;> exact unrounded2_of_legal (legal_of hen (extHolds_quad hq) rfl (pairsOk_nil s))
  · refine ⟨?_, ?_, ?_⟩ <;> exact unrounded2_of_legal (legal_of hen (extHolds_half hh) rfl (pairsOk_nil s))
  · rw [unbox_of_not_boxed hzero]
    exact ⟨rfl, signOf_cnan⟩

end Sys2Proof.Machine

/-!
Classification (40_fp_common.md R132, R160): each mask bit stands for the condition of its class.
-/

namespace Sys2Proof.Machine

/-- The condition of each class on a pattern, as R160 lists them. -/
def FpClass.holds {fmt : Fmt} (v : Bits fmt) : FpClass → Bool
  | .negInf => isInf v && signOf v
  | .negNormal => isFinite v && decide (0 < expOf v) && signOf v
  | .negSubnormal => isSubnormal v && signOf v
  | .negZero => isZero v && signOf v
  | .posZero => isZero v && !signOf v
  | .posSubnormal => isSubnormal v && !signOf v
  | .posNormal => isFinite v && decide (0 < expOf v) && !signOf v
  | .posInf => isInf v && !signOf v
  | .sNaN => isSNaN v
  | .qNaN => isQNaN v

section
variable {fmt : Fmt} {v : Bits fmt}

theorem isSNaN_of_not_isNaN (h : isNaN v = false) : isSNaN v = false := by simp [isSNaN, h]

/-- A biased exponent of zero is that of a zero or a subnormal number, none of which is the exponent of a NaN. -/
theorem isFinite_of_expOf_eq_zero (h : expOf v = 0) : isFinite v = true := by
  have := fmt.two_le_expMax
  simp only [isFinite, h, bne_iff_ne]
  omega

theorem expOf_of_isZero (h : isZero v = true) : expOf v = 0 := by
  rw [isZero, Bool.and_eq_true, beq_iff_eq] at h
  exact h.left

theorem isSubnormal_iff : isSubnormal v = true ↔ expOf v = 0 ∧ isZero v = false := by
  by_cases h : expOf v = 0 <;> simp [isSubnormal, isZero, h]

/-- A pattern meets the condition of its own class. -/
theorem FpClass.holds_classOf (v : Bits fmt) : (classOf v).holds v = true := by
  unfold classOf
  split_ifs with hsnan hnan hinf hs hzero hs hsub hs hs
  · exact hsnan
  · simp only [isSNaN, hnan, Bool.true_and, decide_eq_true_eq, not_lt] at hsnan
    simp [FpClass.holds, isQNaN, hnan, hsnan]
  · simp [FpClass.holds, hinf, hs]
  · simp [FpClass.holds, hinf, hs]
  · simp [FpClass.holds, hzero, hs]
  · simp [FpClass.holds, hzero, hs]
  · simp [FpClass.holds, hsub, hs]
  · simp [FpClass.holds, hsub, hs]
  all_goals
    have hfin : isFinite v = true :=
      isFinite_of_not_isNaN_isInf (Bool.eq_false_iff.2 hnan) (Bool.eq_false_iff.2 hinf)
    have hexp : 0 < expOf v :=
      Nat.pos_of_ne_zero fun h => hsub (isSubnormal_iff.2 ⟨h, Bool.eq_false_iff.2 hzero⟩)
    simp [FpClass.holds, hfin, hexp, hs]

/-- The conditions exclude each other: the one that holds is that of the pattern's class. -/
theorem classOf_eq_of_holds {c : FpClass} (h : c.holds v = true) : classOf v = c := by
  cases c with
  | negInf | posInf =>
    simp only [FpClass.holds, Bool.and_eq_true, Bool.not_eq_true'] at h
    obtain ⟨hinf, hs⟩ := h
    have hn := isNaN_of_isInf hinf
    simp [classOf, isSNaN_of_not_isNaN, hn, hinf, hs]
  | negNormal | posNormal =>
    simp only [FpClass.holds, Bool.and_eq_true, Bool.not_eq_true', decide_eq_true_eq] at h
    obtain ⟨⟨hfin, hexp⟩, hs⟩ := h
    have hn := isNaN_of_isFinite hfin
    have hi := isInf_of_isFinite hfin
    simp [classOf, isSNaN_of_not_isNaN, hn, hi, isZero, isSubnormal, hexp.ne', hs]
  | negSubnormal | posSubnormal =>
    simp only [FpClass.holds, Bool.and_eq_true, Bool.not_eq_true'] at h
    obtain ⟨hsub, hs⟩ := h
    obtain ⟨hexp, hz⟩ := isSubnormal_iff.1 hsub
    have hfin := isFinite_of_expOf_eq_zero hexp
    have hn := isNaN_of_isFinite hfin
    have hi := isInf_of_isFinite hfin
    simp [classOf, isSNaN_of_not_isNaN, hn, hi, hz, hsub, hs]
  | negZero | posZero =>
    simp only [FpClass.holds, Bool.and_eq_true, Bool.not_eq_true'] at h
    obtain ⟨hz, hs⟩ := h
    have hexp : expOf v = 0 := expOf_of_isZero hz
    have hfin := isFinite_of_expOf_eq_zero hexp
    have hn := isNaN_of_isFinite hfin
    have hi := isInf_of_isFinite hfin
    simp [classOf, isSNaN_of_not_isNaN, hn, hi, hz, hs]
  | sNaN => exact if_pos h
  | qNaN =>
    have hs : isSNaN v = false := by
      rw [FpClass.holds, isQNaN_iff] at h
      rw [← Bool.not_eq_true, isSNaN_iff]
      omega
    have hn : isNaN v = true := by
      rw [FpClass.holds, isQNaN, Bool.and_eq_true] at h
      exact h.left
    simp [classOf, hs, hn]

theorem FpClass.holds_eq (v : Bits fmt) (c : FpClass) : c.holds v = decide (classOf v = c) := by
  rw [Bool.eq_iff_iff, decide_eq_true_eq]
  exact ⟨classOf_eq_of_holds, fun h => h ▸ holds_classOf v⟩

/-! ## The mask (R160) -/

/-- A mask bit that stands for a condition. -/
def bitIf (n : Nat) (c : Bool) : XWord := if c then 1#64 <<< n else 0

/-- The mask as R160 says it: each bit stands for one condition. -/
def conditionMask (v : Bits fmt) : XWord :=
  bitIf 0 (FpClass.negInf.holds v) ||| bitIf 1 (FpClass.negNormal.holds v) |||
    bitIf 2 (FpClass.negSubnormal.holds v) ||| bitIf 3 (FpClass.negZero.holds v) |||
    bitIf 4 (FpClass.posZero.holds v) ||| bitIf 5 (FpClass.posSubnormal.holds v) |||
    bitIf 6 (FpClass.posNormal.holds v) ||| bitIf 7 (FpClass.posInf.holds v) ||| bitIf 8 (FpClass.sNaN.holds v) |||
    bitIf 9 (FpClass.qNaN.holds v)

/-- The mask is the one bit of the pattern's class. -/
theorem conditionMask_eq (v : Bits fmt) : conditionMask v = 1#64 <<< (classOf v).maskBit := by
  simp only [conditionMask, FpClass.holds_eq]
  cases classOf v <;> rfl

theorem setWidth_fclass (v : Bits fmt) : (fclass fmt v).setWidth 64 = conditionMask v := by
  rw [conditionMask_eq, fclass]
  cases classOf v <;> rfl

/-- Exactly one bit of the mask is set. -/
theorem existsUnique_bit_conditionMask (v : Bits fmt) : ∃! n, n < 64 ∧ (conditionMask v).getLsbD n = true := by
  have hlt : (classOf v).maskBit < 64 := by cases classOf v <;> decide
  simp only [conditionMask_eq, ← BitVec.twoPow_eq, BitVec.getLsbD_twoPow, hlt, decide_true, Bool.true_and,
    decide_eq_true_eq]
  exact ⟨_, ⟨hlt, rfl⟩, fun n hn => hn.right.symm⟩

end

/-- Settles O37: the class conditions exclude each other, so the mask of R160 is the one bit of the class. -/
theorem classifyCompletes : Obligations.ClassifyCompletes := by
  intro rd rs1 s hen
  have hnext {i : Instr} {fmt : Fmt} (hlegal : legal i s = true) :
      classify i fmt rd rs1 s = .next (xDone s rd (conditionMask (s.readFp fmt rs1)) 0) ∧
        ∃! n, n < 64 ∧ (conditionMask (s.readFp fmt rs1)).getLsbD n = true :=
    ⟨by rw [classify_of_legal hlegal, setWidth_fclass], existsUnique_bit_conditionMask _⟩
  exact ⟨fun hs => hnext (i := .fclassS rd rs1) (legal_of hen (extHolds_single hs) rfl (pairsOk_nil s)),
    fun hd hp => hnext (i := .fclassD rd rs1) (legal_of hen (extHolds_double hd) rfl hp),
    fun hq => hnext (i := .fclassQ rd rs1) (legal_of hen (extHolds_quad hq) rfl (pairsOk_nil s)),
    fun hh => hnext (i := .fclassH rd rs1) (legal_of hen (extHolds_half hh) rfl (pairsOk_nil s))⟩

end Sys2Proof.Machine

/-!
Values: the magnitude of a pattern as a rational, and the order of the numbers with the infinities at their ends
(40_fp_common.md R131, R156, R158).
-/

namespace Sys2Proof.Machine

/-! ## Magnitudes (R131) -/

section
variable {fmt : Fmt}

/-- The magnitude of a pattern's value. -/
def absOf (v : Bits fmt) : ℚ := sigOf v * (2 : ℚ) ^ unitOf v

theorem ratOf_eq (v : Bits fmt) : ratOf v = if signOf v then -absOf v else absOf v := by
  rw [ratOf, Dyad.toRat, absOf, valueOf]
  cases signOf v <;> simp

theorem absOf_nonneg (v : Bits fmt) : 0 ≤ absOf v := by unfold absOf; positivity

theorem abs_ratOf (v : Bits fmt) : |ratOf v| = absOf v := by
  rw [ratOf_eq]
  split <;> simp [abs_of_nonneg (absOf_nonneg v)]

theorem sigOf_of_expOf_eq_zero {v : Bits fmt} (h : expOf v = 0) : sigOf v = fracOf v := if_pos h

theorem sigOf_of_expOf_pos {v : Bits fmt} (h : 0 < expOf v) : sigOf v = 2 ^ fmt.fracBits + fracOf v := if_neg h.ne'

theorem unitOf_of_expOf_eq_zero {v : Bits fmt} (h : expOf v = 0) : unitOf v = fmt.emin - fmt.fracBits := by
  simp [unitOf, h, Fmt.emin]

theorem unitOf_of_expOf_pos {v : Bits fmt} (h : 0 < expOf v) : unitOf v = expOf v - fmt.bias - fmt.fracBits := by
  rw [unitOf, Nat.max_eq_left h]

/-- The magnitude stays below the next binade. -/
theorem absOf_lt (v : Bits fmt) : absOf v < (2 : ℚ) ^ ((expOf v : ℤ) + 1 - fmt.bias) := by
  have hT : (fracOf v : ℚ) < 2 ^ fmt.fracBits := by exact_mod_cast fracOf_lt v
  have hsplit (k : ℤ) : (2 : ℚ) ^ k = 2 ^ fmt.fracBits * 2 ^ (k - fmt.fracBits) := by
    rw [zpow_sub₀ two_ne_zero, zpow_natCast, mul_div_cancel₀ _ (by positivity)]
  rw [hsplit, absOf]
  obtain h | h := Nat.eq_zero_or_pos (expOf v)
  · rw [sigOf_of_expOf_eq_zero h, unitOf_of_expOf_eq_zero h, h, Fmt.emin, Nat.cast_zero, zero_add]
    exact mul_lt_mul_of_pos_right hT (by positivity)
  · rw [sigOf_of_expOf_pos h, unitOf_of_expOf_pos h,
      show (expOf v : ℤ) + 1 - fmt.bias - fmt.fracBits = (expOf v - fmt.bias - fmt.fracBits) + 1 by ring,
      zpow_add_one₀ two_ne_zero]
    push_cast
    nlinarith [show (0 : ℚ) < 2 ^ ((expOf v : ℤ) - fmt.bias - fmt.fracBits) by positivity]

/-- A normal magnitude reaches its binade. -/
theorem le_absOf {v : Bits fmt} (h : 0 < expOf v) : (2 : ℚ) ^ ((expOf v : ℤ) - fmt.bias) ≤ absOf v := by
  rw [absOf, sigOf_of_expOf_pos h, unitOf_of_expOf_pos h, zpow_sub₀ two_ne_zero _ (fmt.fracBits : ℤ), zpow_natCast,
    mul_div_left_comm]
  apply le_mul_of_one_le_right (by positivity)
  rw [one_le_div (by positivity)]
  push_cast
  linarith [show (0 : ℚ) ≤ fracOf v by positivity]

/-- The bits below the sign are in the order of the magnitudes. -/
theorem absOf_le_of_magOf_le {a b : Bits fmt} (h : magOf a ≤ magOf b) : absOf a ≤ absOf b := by
  have hexp : expOf a ≤ expOf b := by
    rw [expOf_eq_magOf_div, expOf_eq_magOf_div]
    exact Nat.div_le_div_right h
  obtain heq | hlt := hexp.eq_or_lt
  · have hfrac : fracOf a ≤ fracOf b := by
      rw [magOf_eq, magOf_eq, heq] at h
      omega
    have hsig : sigOf a ≤ sigOf b := by
      simp only [sigOf, heq]
      split <;> omega
    have hunit : unitOf a = unitOf b := by simp only [unitOf, heq]
    rw [absOf, absOf, hunit]
    gcongr
  · calc absOf a ≤ (2 : ℚ) ^ ((expOf a : ℤ) + 1 - fmt.bias) := (absOf_lt a).le
      _ ≤ (2 : ℚ) ^ ((expOf b : ℤ) - fmt.bias) := zpow_le_zpow_right₀ one_le_two (by omega)
      _ ≤ absOf b := le_absOf (by omega)

/-! ## The numbers and the infinities (R156, R158) -/

theorem ratOf_of_pos {v : Bits fmt} (hs : signOf v = false) : ratOf v = absOf v := by simp [ratOf_eq, hs]

theorem ratOf_of_neg {v : Bits fmt} (hs : signOf v = true) : ratOf v = -absOf v := by simp [ratOf_eq, hs]

theorem extOf_of_not_isInf {v : Bits fmt} (h : isInf v = false) :
    extOf v = ((ratOf v : WithTop ℚ) : WithBot (WithTop ℚ)) := by simp [extOf, h]

theorem extOf_of_posInf {v : Bits fmt} (h : isInf v = true) (hs : signOf v = false) : extOf v = ⊤ := by
  simp [extOf, h, hs]

theorem extOf_of_negInf {v : Bits fmt} (h : isInf v = true) (hs : signOf v = true) : extOf v = ⊥ := by
  simp [extOf, h, hs]

theorem extOf_nonneg {v : Bits fmt} (hs : signOf v = false) : 0 ≤ extOf v := by
  cases h : isInf v with
  | true => simp [extOf_of_posInf h hs]
  | false =>
    rw [extOf_of_not_isInf h, ratOf_of_pos hs]
    exact_mod_cast absOf_nonneg v

theorem extOf_nonpos {v : Bits fmt} (hs : signOf v = true) : extOf v ≤ 0 := by
  cases h : isInf v with
  | true => simp [extOf_of_negInf h hs]
  | false =>
    rw [extOf_of_not_isInf h, ratOf_of_neg hs]
    exact_mod_cast neg_nonpos.2 (absOf_nonneg v)

/-- Below a finite magnitude no pattern is an infinity. -/
theorem isInf_of_magOf_le {u v : Bits fmt} (hnan : magOf v ≤ fmt.infMag) (hinf : isInf v = false)
    (h : magOf u ≤ magOf v) : isInf u = false := by
  rw [← Bool.not_eq_true, isInf_iff] at hinf ⊢
  omega

theorem orderKey_of_pos {v : Bits fmt} (hs : signOf v = false) : orderKey v = magOf v := by
  simp [orderKey, hs, magOf]

theorem orderKey_of_neg {v : Bits fmt} (hs : signOf v = true) : orderKey v = -(magOf v : ℤ) - 1 := by
  simp [orderKey, hs, magOf]

/-- The order of R156 refines the order of the values. -/
theorem extOf_le_of_orderKey_le {a b : Bits fmt} (ha : isNaN a = false) (hb : isNaN b = false)
    (h : orderKey a ≤ orderKey b) : extOf a ≤ extOf b := by
  rw [← Bool.not_eq_true, isNaN_iff, not_lt] at ha hb
  cases hsa : signOf a <;> cases hsb : signOf b
  case false.true =>
    rw [orderKey_of_pos hsa, orderKey_of_neg hsb] at h
    omega
  case true.false => exact (extOf_nonpos hsa).trans (extOf_nonneg hsb)
  case false.false =>
    rw [orderKey_of_pos hsa, orderKey_of_pos hsb, Nat.cast_le] at h
    cases hinf : isInf b with
    | true => simp [extOf_of_posInf hinf hsb]
    | false =>
      rw [extOf_of_not_isInf hinf, extOf_of_not_isInf (isInf_of_magOf_le hb hinf h), WithBot.coe_le_coe,
        WithTop.coe_le_coe, ratOf_of_pos hsa, ratOf_of_pos hsb]
      exact absOf_le_of_magOf_le h
  case true.true =>
    rw [orderKey_of_neg hsa, orderKey_of_neg hsb] at h
    have hmag : magOf b ≤ magOf a := by omega
    cases hinf : isInf a with
    | true => simp [extOf_of_negInf hinf hsa]
    | false =>
      rw [extOf_of_not_isInf hinf, extOf_of_not_isInf (isInf_of_magOf_le ha hinf hmag), WithBot.coe_le_coe,
        WithTop.coe_le_coe, ratOf_of_neg hsa, ratOf_of_neg hsb, neg_le_neg_iff]
      exact absOf_le_of_magOf_le hmag

end

/-! ## Minimum and maximum (R156, R157) -/

section
variable {fmt : Fmt} (a b : Bits fmt)

theorem pick_eq_or (m : Bool) : pick m a b = a ∨ pick m a b = b := by
  unfold pick
  split_ifs <;> simp

theorem orderKey_pick_min_le : orderKey (pick false a b) ≤ orderKey a ∧ orderKey (pick false a b) ≤ orderKey b := by
  rw [pick, if_neg Bool.false_ne_true]
  split_ifs <;> omega

theorem orderKey_le_pick_max : orderKey a ≤ orderKey (pick true a b) ∧ orderKey b ≤ orderKey (pick true a b) := by
  rw [pick, if_pos rfl]
  split_ifs <;> omega

theorem fminmax_of_not_isNaN {a b : Bits fmt} (m : Bool) (ha : isNaN a = false) (hb : isNaN b = false) :
    (fminmax fmt m a b).1 = pick m a b := by simp [fminmax, ha, hb]

theorem pick_isNaN {a b : Bits fmt} {m : Bool} (ha : isNaN a = false) (hb : isNaN b = false) :
    isNaN (pick m a b) = false := by
  obtain h | h := pick_eq_or a b m <;> rw [h] <;> assumption

/-- Without a NaN the minimum is below and the maximum above both operands in value. -/
theorem extOf_fminmax {a b : Bits fmt} (ha : isNaN a = false) (hb : isNaN b = false) :
    (extOf (fminmax fmt false a b).1 ≤ extOf a ∧ extOf (fminmax fmt false a b).1 ≤ extOf b) ∧
      (extOf a ≤ extOf (fminmax fmt true a b).1 ∧ extOf b ≤ extOf (fminmax fmt true a b).1) := by
  rw [fminmax_of_not_isNaN false ha hb, fminmax_of_not_isNaN true ha hb]
  obtain ⟨hmina, hminb⟩ := orderKey_pick_min_le a b
  obtain ⟨hmaxa, hmaxb⟩ := orderKey_le_pick_max a b
  exact ⟨⟨extOf_le_of_orderKey_le (pick_isNaN ha hb) ha hmina, extOf_le_of_orderKey_le (pick_isNaN ha hb) hb hminb⟩,
    extOf_le_of_orderKey_le ha (pick_isNaN ha hb) hmaxa, extOf_le_of_orderKey_le hb (pick_isNaN ha hb) hmaxb⟩

/-- Of two zeros of unlike sign the minimum is the negative and the maximum the positive one. -/
theorem fminmax_of_zeros {a b : Bits fmt} (ha : isZero a = true) (hb : isZero b = true) (hs : signOf a ≠ signOf b)
    (m : Bool) : (fminmax fmt m a b).1 = zeroOf fmt (!m) := by
  have hkey (neg : Bool) : orderKey (zeroOf fmt neg) = if neg then -1 else 0 := by
    cases neg with
    | false => rw [orderKey_of_pos signOf_zeroOf, magOf_zeroOf]; rfl
    | true => rw [orderKey_of_neg signOf_zeroOf, magOf_zeroOf]; rfl
  have hsb : signOf b = !signOf a := Bool.eq_not.2 (Ne.symm hs)
  rw [fminmax_of_not_isNaN m (isNaN_of_isZero ha) (isNaN_of_isZero hb), eq_zeroOf_of_isZero ha,
    eq_zeroOf_of_isZero hb, hsb, pick, hkey, hkey]
  cases signOf a <;> cases m <;> rfl

/-- NV is raised exactly when an operand is signaling. -/
theorem signalingFlags_eq : signalingFlags a b = if isSNaN a = true ∨ isSNaN b = true then 0b10000#5 else 0#5 := by
  simp [signalingFlags, flagIf, NV, noFlags]

theorem fminmax_flags (m : Bool) : (fminmax fmt m a b).2 = signalingFlags a b := by
  unfold fminmax
  dsimp only
  split_ifs <;> rfl

theorem fminmaxm_flags (m : Bool) : (fminmaxm fmt m a b).2 = signalingFlags a b := by
  unfold fminmaxm
  split_ifs <;> rfl

end

/-- Settles O34: the order of R156 refines that of the values, and the NaN cases are those of the definitions. -/
theorem minMaxCompletes : Obligations.MinMaxCompletes := by
  refine ⟨fun rd rs1 rs2 s hen => ⟨fun hs => ?_, fun hd hp => ?_, fun hq => ?_, fun hh => ?_, fun hz => ?_,
    fun hz => ?_, fun hz => ?_, fun hz => ?_⟩, fun fmt a b => ⟨fun ha hb => ?_, fun ha hb hs => ?_, fun m => ?_⟩⟩
  · constructor <;> exact unrounded2_of_legal (legal_of hen (extHolds_single hs) rfl (pairsOk_nil s))
  · constructor <;> exact unrounded2_of_legal (legal_of hen (extHolds_double hd) rfl hp)
  · constructor <;> exact unrounded2_of_legal (legal_of hen (extHolds_quad hq) rfl (pairsOk_nil s))
  · constructor <;> exact unrounded2_of_legal (legal_of hen (extHolds_half hh) rfl (pairsOk_nil s))
  · constructor <;> exact unrounded2_of_legal (legal_of hen (extHolds_zfa hz) rfl (pairsOk_nil s))
  · constructor <;> exact unrounded2_of_legal (legal_of hen (extHolds_zfa_and hz.1 hz.2) rfl (pairsOk_nil s))
  · constructor <;> exact unrounded2_of_legal (legal_of hen (extHolds_zfa_and hz.1 hz.2) rfl (pairsOk_nil s))
  · constructor <;> exact unrounded2_of_legal (legal_of hen (extHolds_zfa_and hz.1 hz.2) rfl (pairsOk_nil s))
  · obtain ⟨⟨hmina, hminb⟩, hmaxa, hmaxb⟩ := extOf_fminmax ha hb
    refine ⟨?_, ?_, hmina, hminb, hmaxa, hmaxb⟩
    · rw [fminmax_of_not_isNaN false ha hb]
      exact pick_eq_or a b false
    · rw [fminmax_of_not_isNaN true ha hb]
      exact pick_eq_or a b true
  · exact ⟨fminmax_of_zeros ha hb hs false, fminmax_of_zeros ha hb hs true⟩
  · refine ⟨(fminmax_flags a b m).trans (signalingFlags_eq a b), (fminmaxm_flags a b m).trans (signalingFlags_eq a b),
      ?_, ?_, ?_, ?_, ?_⟩
    · intro ha hb
      simp [fminmax, ha, hb]
    · intro ha hb
      simp [fminmax, ha, hb]
    · intro ha hb
      simp [fminmax, ha, hb]
    · intro h
      simp [fminmaxm, h]
    · intro ha hb
      simp [fminmax, fminmaxm, ha, hb]

/-! ## Compares (R158, R159) -/

/-- Two pairs in the same relation compare alike. -/
theorem compare_congr {α β : Type} [LinearOrder α] [LinearOrder β] {x y : α} {u v : β} (hlt : x < y ↔ u < v)
    (heq : x = y ↔ u = v) : compare x y = compare u v := by
  obtain h | h | h := lt_trichotomy u v
  · rw [compare_lt_iff_lt.2 h, compare_lt_iff_lt.2 (hlt.2 h)]
  · rw [compare_eq_iff_eq.2 h, compare_eq_iff_eq.2 (heq.2 h)]
  · rw [compare_gt_iff_gt.2 h, compare_gt_iff_gt.2]
    exact lt_of_le_of_ne (not_lt.1 fun h' => h.not_gt (hlt.1 h')) fun h' => h.ne' (heq.1 h'.symm)

theorem Dyad.toRat_eq_over {x : Dyad} {e : ℤ} (h : e ≤ x.exp) : x.toRat = x.over e * (2 : ℚ) ^ e := by
  have hexp : x.exp = (x.exp - e).toNat + e := by omega
  rw [toRat, Dyad.over, hexp, zpow_add₀ two_ne_zero, zpow_natCast]
  push_cast
  rw [← hexp, mul_assoc]

/-- Dyads compare as the numbers they stand for. -/
theorem Dyad.cmp_eq (x y : Dyad) : x.cmp y = compare x.toRat y.toRat := by
  have hmono : StrictMono fun n : ℤ => (n : ℚ) * (2 : ℚ) ^ min x.exp y.exp := fun m n h =>
    mul_lt_mul_of_pos_right (Int.cast_lt.2 h) (by positivity)
  rw [toRat_eq_over (min_le_left x.exp y.exp), toRat_eq_over (min_le_right x.exp y.exp), ← cmp_eq_compare,
    hmono.cmp_map_eq, cmp_eq_compare]
  rfl

section
variable {fmt : Fmt} {a b : Bits fmt}

/-- Patterns compare as their values, the infinities at the ends. -/
theorem cmpValue_eq_compare (a b : Bits fmt) : cmpValue a b = compare (extOf a) (extOf b) := by
  have htop (x : ℚ) : ((x : WithTop ℚ) : WithBot (WithTop ℚ)) < ⊤ := WithBot.coe_lt_coe.2 (WithTop.coe_lt_top x)
  cases hia : isInf a <;> cases hib : isInf b
  case false.false =>
    have hmono : StrictMono fun x : ℚ => ((x : WithTop ℚ) : WithBot (WithTop ℚ)) :=
      WithBot.coe_strictMono.comp WithTop.coe_strictMono
    rw [extOf_of_not_isInf hia, extOf_of_not_isInf hib, ← cmp_eq_compare, hmono.cmp_map_eq, cmp_eq_compare]
    exact (if_neg (by simp [hia, hib])).trans (Dyad.cmp_eq (valueOf a) (valueOf b))
  all_goals
    rw [cmpValue, if_pos (by simp [hia, hib])]
    cases hsa : signOf a <;> cases hsb : signOf b <;>
      exact compare_congr (by simp [infRank, extOf, htop, hia, hib, hsa, hsb])
        (by simp [infRank, extOf, hia, hib, hsa, hsb])

theorem test_compare {α : Type} [LinearOrder α] (x y : α) :
    (CmpOp.eq.test (compare x y) = true ↔ x = y) ∧
      (∀ op ∈ [CmpOp.lt, .ltq], op.test (compare x y) = true ↔ x < y) ∧
      (∀ op ∈ [CmpOp.le, .leq], op.test (compare x y) = true ↔ x ≤ y) := by
  simp [CmpOp.test, compare_le_iff_le, compare_lt_iff_lt]

theorem fcmp_of_not_isNaN (op : CmpOp) (ha : isNaN a = false) (hb : isNaN b = false) :
    fcmp fmt op a b = (op.test (compare (extOf a) (extOf b)), 0#5) := by
  rw [← cmpValue_eq_compare]
  simp [fcmp, ha, hb, noFlags]

theorem fcmp_of_isNaN (op : CmpOp) (h : isNaN a = true ∨ isNaN b = true) :
    fcmp fmt op a b = (false, if op.signaling then NV else signalingFlags a b) := by
  simp [fcmp, h]

end

/-- Settles O36: a compare tests the order of the values. -/
theorem comparesComplete : Obligations.ComparesComplete := by
  refine ⟨fun rd rs1 rs2 s hen => ⟨fun hs => ?_, fun hd hp => ?_, fun hq => ?_, fun hh => ?_, fun hz => ?_,
    fun hz => ?_, fun hz => ?_, fun hz => ?_⟩, fun fmt a b => ⟨fun ha hb => ?_, fun h => ?_⟩⟩
  · refine ⟨?_, ?_, ?_⟩ <;> exact compareFp_of_legal (legal_of hen (extHolds_single hs) rfl (pairsOk_nil s))
  · refine ⟨?_, ?_, ?_⟩ <;> exact compareFp_of_legal (legal_of hen (extHolds_double hd) rfl hp)
  · refine ⟨?_, ?_, ?_⟩ <;> exact compareFp_of_legal (legal_of hen (extHolds_quad hq) rfl (pairsOk_nil s))
  · refine ⟨?_, ?_, ?_⟩ <;> exact compareFp_of_legal (legal_of hen (extHolds_half hh) rfl (pairsOk_nil s))
  · constructor <;> exact compareFp_of_legal (legal_of hen (extHolds_zfa hz) rfl (pairsOk_nil s))
  · constructor <;> exact compareFp_of_legal (legal_of hen (extHolds_zfa_and hz.1 hz.2) rfl (pairsOk_nil s))
  · constructor <;> exact compareFp_of_legal (legal_of hen (extHolds_zfa_and hz.1 hz.2) rfl (pairsOk_nil s))
  · constructor <;> exact compareFp_of_legal (legal_of hen (extHolds_zfa_and hz.1 hz.2) rfl (pairsOk_nil s))
  · simp only [fcmp_of_not_isNaN _ ha hb]
    exact ⟨fun _ => trivial, test_compare _ _⟩
  · simp only [fcmp_of_isNaN _ h, signalingFlags_eq]
    simp [CmpOp.signaling, NV]

end Sys2Proof.Machine

/-!
The constants of FLI (40_fp_common.md R166).
-/

namespace Sys2Proof.Machine

/-- The pattern of the least normal number: biased exponent 1, trailing significand 0 (R131). -/
theorem ratOf_of_magOf_eq {fmt : Fmt} {v : Bits fmt} (hs : signOf v = false) (hm : magOf v = 2 ^ fmt.fracBits) :
    ratOf v = (2 : ℚ) ^ fmt.emin := by
  have hexp : expOf v = 1 := by rw [expOf_eq_magOf_div, hm, Nat.div_self (by positivity)]
  have hfrac : fracOf v = 0 := by rw [fracOf_eq_magOf_mod, hm, Nat.mod_self]
  rw [ratOf_of_pos hs, absOf, sigOf_of_expOf_pos (by omega), unitOf_of_expOf_pos (by omega), hexp, hfrac,
    zpow_sub₀ two_ne_zero, zpow_natCast]
  push_cast
  rw [add_zero, mul_div_cancel₀ _ (by positivity)]
  rfl

/-- Settles O60: the least normal number by its fields, every other entry by evaluating it. -/
theorem fliConstantsHaveTheirValues : Obligations.FliConstantsHaveTheirValues := by
  have hmin : ∀ fmt ∈ [Fmt.s, .d, .q, .h], isFinite (fli fmt 1) = true ∧ signOf (fli fmt 1) = false ∧
      magOf (fli fmt 1) = 2 ^ fmt.fracBits := by decide +kernel
  intro fmt hfmt
  refine ⟨?_, ?_, ?_⟩
  · revert fmt
    decide +kernel
  · obtain ⟨hfin, hsign, hmag⟩ := hmin fmt hfmt
    exact ⟨hfin, ratOf_of_magOf_eq hsign hmag⟩
  · revert fmt
    decide +kernel

end Sys2Proof.Machine

/-!
Exact numbers and their cuts: the floor and the place of the rest, as the rounding functions compute them on integers,
are those of the number (40_fp_common.md R144, R145).
-/

namespace Sys2Proof.Machine

/-! ## Where a cut stands -/

section
variable {K : Type} [Field K] [LinearOrder K]

/-- A cut is at a number: its floor is the number's, and its rest says on which side of one half the number lies. -/
def Cut.At (c : Cut) (x : K) : Prop :=
  match c.rest with
  | .exact => x = c.floor
  | .below => (c.floor : K) < x ∧ x < c.floor + 1 / 2
  | .half => x = c.floor + 1 / 2
  | .above => (c.floor : K) + 1 / 2 < x ∧ x < c.floor + 1

/-- The rest is placed by comparing with the middle. -/
theorem Cut.at_restOf {k : ℕ} {x : K} (hlo : (k : K) < x) (hhi : x < k + 1) :
    (⟨k, restOf (compare x (k + 1 / 2))⟩ : Cut).At x := by
  obtain h | h | h := lt_trichotomy x (k + 1 / 2)
  · rw [compare_lt_iff_lt.2 h]
    exact ⟨hlo, h⟩
  · rw [compare_eq_iff_eq.2 h]
    exact h
  · rw [compare_gt_iff_gt.2 h]
    exact ⟨h, hhi⟩

variable [IsStrictOrderedRing K] {c : Cut} {x : K}

/-- An exact cut is at its floor, and every other one strictly between its floor and the next integer. -/
theorem Cut.At.exact_or (h : c.At x) :
    (c.rest = .exact ∧ x = c.floor) ∨ (c.rest ≠ .exact ∧ (c.floor : K) < x ∧ x < c.floor + 1) := by
  obtain ⟨k, rest⟩ := c
  cases rest with
  | exact => exact .inl ⟨rfl, h⟩
  | below =>
    obtain ⟨hlo, hhi⟩ := h
    exact .inr ⟨by simp, hlo, by linarith⟩
  | half =>
    have hx : x = k + 1 / 2 := h
    exact .inr ⟨by simp, by linarith, by linarith⟩
  | above =>
    obtain ⟨hlo, hhi⟩ := h
    exact .inr ⟨by simp, by linarith, hhi⟩

theorem Cut.At.floor_le (h : c.At x) : (c.floor : K) ≤ x := by
  obtain ⟨_, h⟩ | ⟨_, h, _⟩ := h.exact_or <;> linarith

theorem Cut.At.lt_floor_add_one (h : c.At x) : x < c.floor + 1 := by
  obtain ⟨_, h⟩ | ⟨_, _, h⟩ := h.exact_or <;> linarith

/-- A quotient, cut. -/
theorem cutRatio_at (num : ℕ) {den : ℕ} (hden : 0 < den) : (cutRatio num den).At ((num : K) / den) := by
  have hd : (0 : K) < den := Nat.cast_pos.2 hden
  have hle : ((num / den : ℕ) : K) * den ≤ num := by exact_mod_cast Nat.div_mul_le_self num den
  have hlt : (num : K) < ((num / den : ℕ) + 1) * den := by
    exact_mod_cast (Nat.div_lt_iff_lt_mul hden).1 (Nat.lt_succ_self _)
  unfold cutRatio
  dsimp only
  split
  next h =>
    change (num : K) / den = (num / den : ℕ)
    rw [div_eq_iff hd.ne']
    exact_mod_cast h.symm
  next h =>
    have hne : ((num / den : ℕ) : K) * den ≠ num := by exact_mod_cast h
    have hcmp : compare (2 * num) ((2 * (num / den) + 1) * den) =
        compare ((num : K) / den) ((num / den : ℕ) + 1 / 2) := by
      apply compare_congr
      · rw [div_lt_iff₀ hd, ← Nat.cast_lt (α := K)]
        push_cast
        constructor <;> intro h <;> linarith
      · rw [div_eq_iff hd.ne', ← Nat.cast_inj (R := K)]
        push_cast
        constructor <;> intro h <;> linarith
    rw [hcmp]
    exact Cut.at_restOf ((lt_div_iff₀ hd).2 (lt_of_le_of_ne hle hne)) ((div_lt_iff₀ hd).2 hlt)

end

/-! ## Integer square roots (R153) -/

theorem isqrtGo_spec (n k r : ℕ) (hle : r * r ≤ n) (hlt : n < (r + 2 ^ k) * (r + 2 ^ k)) :
    isqrtGo n k r * isqrtGo n k r ≤ n ∧ n < (isqrtGo n k r + 1) * (isqrtGo n k r + 1) := by
  induction k generalizing r with
  | zero => exact ⟨hle, hlt⟩
  | succ k ih =>
    rw [isqrtGo]
    split
    next h =>
      refine ih _ h ?_
      rwa [Nat.add_assoc, ← Nat.two_mul, ← Nat.pow_succ']
    next h => exact ih _ hle (not_le.1 h)

theorem isqrt_spec (n : ℕ) : isqrt n * isqrt n ≤ n ∧ n < (isqrt n + 1) * (isqrt n + 1) := by
  apply isqrtGo_spec n _ 0 (Nat.zero_le _)
  rw [Nat.zero_add, ← Nat.pow_add]
  exact Nat.lt_log2_self.trans_le (Nat.pow_le_pow_right two_pos (by omega))

/-- A square root, cut. -/
theorem cutRoot_at (num : ℕ) {den : ℕ} (hden : 0 < den) : (cutRoot num den).At √((num : ℝ) / den) := by
  have hd : (0 : ℝ) < den := Nat.cast_pos.2 hden
  obtain ⟨hle, hlt⟩ := isqrt_spec (num / den)
  unfold cutRoot
  dsimp only
  generalize isqrt (num / den) = k at hle hlt
  have hle' : (k : ℝ) ^ 2 * den ≤ num := by
    rw [sq]
    exact_mod_cast (Nat.le_div_iff_mul_le hden).1 hle
  have hlt' : (num : ℝ) < ((k : ℝ) + 1) ^ 2 * den := by
    rw [sq]
    exact_mod_cast (Nat.div_lt_iff_lt_mul hden).1 hlt
  have hhi : √((num : ℝ) / den) < k + 1 := by
    rw [Real.sqrt_lt' (by positivity), div_lt_iff₀ hd]
    exact hlt'
  split
  next h =>
    change √((num : ℝ) / den) = k
    rw [Real.sqrt_eq_iff_mul_self_eq (by positivity) (by positivity), div_eq_iff hd.ne']
    exact_mod_cast h.symm
  next h =>
    have hne : (k : ℝ) ^ 2 * den ≠ num := by
      rw [sq]
      exact_mod_cast h
    have hcmp : compare (4 * num) ((2 * k + 1) * (2 * k + 1) * den) = compare √((num : ℝ) / den) (k + 1 / 2) := by
      apply compare_congr
      · rw [Real.sqrt_lt' (by positivity), div_lt_iff₀ hd, ← Nat.cast_lt (α := ℝ)]
        push_cast
        constructor <;> intro h <;> linarith
      · rw [Real.sqrt_eq_iff_mul_self_eq (by positivity) (by positivity), div_eq_iff hd.ne',
          ← Nat.cast_inj (R := ℝ)]
        push_cast
        constructor <;> intro h <;> linarith
    rw [hcmp]
    refine Cut.at_restOf ?_ hhi
    rw [Real.lt_sqrt (by positivity), lt_div_iff₀ hd]
    exact lt_of_le_of_ne hle' hne

/-! ## Magnitudes as real numbers -/

/-- The real number a magnitude stands for. -/
noncomputable def Magnitude.toReal : Magnitude → ℝ
  | .ratio num den e => (num : ℝ) / den * 2 ^ e
  | .root rad e => √rad * 2 ^ e

/-- A magnitude of a nonzero number. -/
def Magnitude.Pos : Magnitude → Prop
  | .ratio num den _ => 0 < num ∧ 0 < den
  | .root rad _ => 0 < rad

theorem two_pow_toNat_div {K : Type} [Field K] [CharZero K] (n : ℤ) :
    (2 : K) ^ n.toNat / 2 ^ (-n).toNat = 2 ^ n := by
  obtain h | h := le_total 0 n
  · rw [Int.toNat_of_nonpos (by omega : -n ≤ 0), pow_zero, div_one, ← zpow_natCast, Int.toNat_of_nonneg h]
  · rw [Int.toNat_of_nonpos h, pow_zero, one_div, ← zpow_natCast, Int.toNat_of_nonneg (by omega), zpow_neg, inv_inv]

theorem cut_ratio_at {num den : ℕ} (hden : 0 < den) (e q : ℤ) :
    ((Magnitude.ratio num den e).cut q).At ((Magnitude.ratio num den e).toReal / 2 ^ q) := by
  have heq : (Magnitude.ratio num den e).toReal / 2 ^ q =
      ((num * 2 ^ (e - q).toNat : ℕ) : ℝ) / ((den * 2 ^ (q - e).toNat : ℕ) : ℝ) := by
    push_cast
    rw [mul_div_mul_comm, ← neg_sub e q, two_pow_toNat_div, zpow_sub₀ two_ne_zero, Magnitude.toReal, mul_div_assoc]
  rw [heq]
  exact cutRatio_at _ (by positivity)

theorem cut_root_at (rad : ℕ) (e q : ℤ) :
    ((Magnitude.root rad e).cut q).At ((Magnitude.root rad e).toReal / 2 ^ q) := by
  have hfour (n : ℕ) : √((4 : ℝ) ^ n) = 2 ^ n := by
    rw [show (4 : ℝ) = 2 ^ 2 by norm_num, ← pow_mul, Nat.mul_comm, pow_mul, Real.sqrt_sq (by positivity)]
  have heq : (Magnitude.root rad e).toReal / 2 ^ q =
      √(((rad * 4 ^ (e - q).toNat : ℕ) : ℝ) / ((4 ^ (q - e).toNat : ℕ) : ℝ)) := by
    push_cast
    rw [mul_div_assoc, Real.sqrt_mul (by positivity), Real.sqrt_div (by positivity), hfour, hfour, ← neg_sub e q,
      two_pow_toNat_div, zpow_sub₀ two_ne_zero, Magnitude.toReal, mul_div_assoc]
  rw [heq]
  exact cutRoot_at _ (by positivity)

/-- The cut in a unit `2^q` is at the number of units. -/
theorem Magnitude.cut_at {x : Magnitude} (hx : x.Pos) (q : ℤ) : (x.cut q).At (x.toReal / 2 ^ q) := by
  cases x with
  | ratio num den e => exact cut_ratio_at hx.right e q
  | root rad e => exact cut_root_at rad e q

theorem two_pow_log2_le {n : ℕ} (h : 0 < n) : (2 : ℝ) ^ (Nat.log2 n : ℤ) ≤ n := by
  rw [zpow_natCast]
  exact_mod_cast Nat.log2_self_le h.ne'

theorem lt_two_pow_log2 (n : ℕ) : (n : ℝ) < (2 : ℝ) ^ ((Nat.log2 n : ℤ) + 1) := by
  rw [← Nat.cast_succ, zpow_natCast]
  exact_mod_cast Nat.lt_log2_self

theorem ilog2_ratio {num den : ℕ} (hnum : 0 < num) (hden : 0 < den) (e : ℤ) :
    (2 : ℝ) ^ (Magnitude.ratio num den e).ilog2 ≤ (Magnitude.ratio num den e).toReal ∧
      (Magnitude.ratio num den e).toReal < (2 : ℝ) ^ ((Magnitude.ratio num den e).ilog2 + 1) := by
  have hd : (0 : ℝ) < den := Nat.cast_pos.2 hden
  rw [Magnitude.ilog2]
  set l : ℤ := (Nat.log2 num : ℤ) - Nat.log2 den with hl
  have hlo : (2 : ℝ) ^ (l - 1) ≤ num / den := by
    rw [le_div_iff₀ hd]
    calc (2 : ℝ) ^ (l - 1) * den ≤ 2 ^ (l - 1) * 2 ^ ((Nat.log2 den : ℤ) + 1) := by
          gcongr
          exact (lt_two_pow_log2 den).le
      _ = 2 ^ (Nat.log2 num : ℤ) := by
          rw [← zpow_add₀ two_ne_zero, hl]
          congr 1
          ring
      _ ≤ num := two_pow_log2_le hnum
  have hhi : (num / den : ℝ) < 2 ^ (l + 1) := by
    rw [div_lt_iff₀ hd]
    calc (num : ℝ) < 2 ^ ((Nat.log2 num : ℤ) + 1) := lt_two_pow_log2 num
      _ = 2 ^ (l + 1) * 2 ^ (Nat.log2 den : ℤ) := by
          rw [← zpow_add₀ two_ne_zero, hl]
          congr 1
          ring
      _ ≤ 2 ^ (l + 1) * den := by
          gcongr
          exact two_pow_log2_le hden
  have htest : num * 2 ^ (-l).toNat < den * 2 ^ l.toNat ↔ (num / den : ℝ) < 2 ^ l := by
    rw [← two_pow_toNat_div, div_lt_div_iff₀ hd (by positivity), ← Nat.cast_lt (α := ℝ),
      mul_comm ((2 : ℝ) ^ l.toNat)]
    push_cast
    rfl
  have hscale (j : ℤ) : (2 : ℝ) ^ (j + e) = 2 ^ j * 2 ^ e := zpow_add₀ two_ne_zero j e
  rw [Magnitude.toReal]
  split
  next h =>
    rw [hscale, show l - 1 + e + 1 = l + e by ring, hscale]
    exact ⟨by gcongr, mul_lt_mul_of_pos_right (htest.1 h) (by positivity)⟩
  next h =>
    rw [hscale, show l + e + 1 = l + 1 + e by ring, hscale]
    have hle : (2 : ℝ) ^ l ≤ num / den := not_lt.1 fun h' => h (htest.2 h')
    exact ⟨by gcongr, mul_lt_mul_of_pos_right hhi (by positivity)⟩

theorem ilog2_root {rad : ℕ} (hrad : 0 < rad) (e : ℤ) :
    (2 : ℝ) ^ (Magnitude.root rad e).ilog2 ≤ (Magnitude.root rad e).toReal ∧
      (Magnitude.root rad e).toReal < (2 : ℝ) ^ ((Magnitude.root rad e).ilog2 + 1) := by
  rw [Magnitude.ilog2, Magnitude.toReal]
  set h : ℕ := Nat.log2 rad / 2 with hh
  have hlo : (2 : ℝ) ^ h ≤ √rad := by
    rw [Real.le_sqrt' (by positivity), ← pow_mul]
    exact_mod_cast (Nat.pow_le_pow_right two_pos (by omega)).trans (Nat.log2_self_le hrad.ne')
  have hhi : √(rad : ℝ) < 2 ^ (h + 1) := by
    rw [Real.sqrt_lt' (by positivity), ← pow_mul]
    exact_mod_cast Nat.lt_log2_self.trans_le (Nat.pow_le_pow_right two_pos (by omega))
  rw [show (h : ℤ) + e + 1 = (h + 1 : ℕ) + e by push_cast; ring, zpow_add₀ two_ne_zero, zpow_add₀ two_ne_zero,
    zpow_natCast, zpow_natCast]
  exact ⟨by gcongr, mul_lt_mul_of_pos_right hhi (by positivity)⟩

/-- `ilog2` is the exponent of the number's binade. -/
theorem Magnitude.ilog2_spec {x : Magnitude} (hx : x.Pos) :
    (2 : ℝ) ^ x.ilog2 ≤ x.toReal ∧ x.toReal < (2 : ℝ) ^ (x.ilog2 + 1) := by
  cases x with
  | ratio num den e =>
    obtain ⟨hnum, hden⟩ := hx
    exact ilog2_ratio hnum hden e
  | root rad e => exact ilog2_root hx e

end Sys2Proof.Machine

/-!
Rounding to an integer: the integer a cut is rounded to is the one R144 chooses, and the clipping of the conversions
to integers (40_fp_common.md R144, R161).
-/

namespace Sys2Proof.Machine

/-! ## The choice between two neighbours (R144) -/

theorem Cut.at_cast {c : Cut} {x : ℚ} : c.At (x : ℝ) ↔ c.At x := by
  obtain ⟨k, rest⟩ := c
  cases rest with
  | exact | half =>
    simp only [Cut.At]
    rw [← Rat.cast_inj (α := ℝ)]
    push_cast
    rfl
  | below | above =>
    simp only [Cut.At]
    rw [← Rat.cast_lt (K := ℝ), ← Rat.cast_lt (K := ℝ)]
    push_cast
    rfl

section
variable {c : Cut}

@[simp] theorem Cut.rounded_rtz (neg : Bool) : c.rounded .rtz neg = c.floor := by
  obtain ⟨k, rest⟩ := c
  cases rest <;> rfl

@[simp] theorem Cut.rounded_rdn : c.rounded .rdn false = c.floor := by
  obtain ⟨k, rest⟩ := c
  cases rest <;> rfl

theorem Cut.rounded_of_exact (h : c.rest = .exact) (mode : Mode) (neg : Bool) : c.rounded mode neg = c.floor := by
  simp [Cut.rounded, goesUp, h]

theorem Cut.rounded_rup (h : c.rest ≠ .exact) : c.rounded .rup false = c.floor + 1 := by
  obtain ⟨k, rest⟩ := c
  cases rest with
  | exact => exact absurd rfl h
  | below | half | above => rfl

theorem Cut.rounded_eq_or (mode : Mode) (neg : Bool) :
    c.rounded mode neg = c.floor ∨ c.rounded mode neg = c.floor + 1 := by
  unfold Cut.rounded
  split_ifs <;> simp

/-- In the middle RNE goes to the even neighbour. -/
theorem Cut.rounded_rne_half (k : ℕ) : (⟨k, .half⟩ : Cut).rounded .rne false % 2 = 0 := by
  change (if (k % 2 == 1) = true then k + 1 else k) % 2 = 0
  simp only [beq_iff_eq]
  split <;> omega

section
variable {K : Type} [Field K] [LinearOrder K] [IsStrictOrderedRing K] {x : K}

/-- The chosen candidate is the number itself exactly when nothing is cut off. -/
theorem Cut.At.rounded_eq_iff (h : c.At x) (mode : Mode) (neg : Bool) :
    (c.rounded mode neg : K) = x ↔ c.inexact = false := by
  simp only [Cut.inexact, bne_eq_false_iff_eq]
  obtain ⟨hr, hx⟩ | ⟨hr, hlo, hhi⟩ := h.exact_or
  · simp [Cut.rounded_of_exact hr, hr, hx]
  · refine iff_of_false ?_ hr
    obtain hk | hk := c.rounded_eq_or mode neg <;> rw [hk]
    · exact hlo.ne
    · push_cast
      exact hhi.ne'

/-- Away from the middle both nearest modes go to the nearest integer. -/
theorem Cut.At.abs_sub_rounded_lt (h : c.At x) (hr : c.rest ≠ .half) {mode : Mode}
    (hmode : mode = .rne ∨ mode = .rmm) : |x - (c.rounded mode false : K)| < 1 / 2 := by
  obtain ⟨k, rest⟩ := c
  cases rest with
  | half => exact absurd rfl hr
  | exact =>
    have hx : x = k := h
    rw [Cut.rounded_of_exact rfl, hx]
    norm_num
  | below =>
    obtain ⟨hlo, hhi⟩ := h
    have hk : (⟨k, .below⟩ : Cut).rounded mode false = k := by obtain rfl | rfl := hmode <;> rfl
    rw [hk, abs_lt]
    dsimp only at hlo hhi
    constructor <;> linarith
  | above =>
    obtain ⟨hlo, hhi⟩ := h
    have hk : (⟨k, .above⟩ : Cut).rounded mode false = k + 1 := by obtain rfl | rfl := hmode <;> rfl
    rw [hk, abs_lt]
    dsimp only at hlo hhi
    push_cast
    constructor <;> linarith

theorem Cut.At.abs_sub_rounded_half (h : c.At x) (hr : c.rest = .half) (mode : Mode) (neg : Bool) :
    |x - (c.rounded mode neg : K)| = 1 / 2 := by
  obtain ⟨k, rest⟩ := c
  obtain rfl : rest = .half := hr
  have hx : x = k + 1 / 2 := h
  obtain hk | hk := (⟨k, .half⟩ : Cut).rounded_eq_or mode neg <;> rw [hk, hx] <;> norm_num [abs_of_neg]

end

/-- The direction that a mode has for the negated numbers. -/
def Mode.mirror : Mode → Mode
  | .rdn => .rup
  | .rup => .rdn
  | .rne => .rne
  | .rtz => .rtz
  | .rmm => .rmm

theorem Cut.rounded_true (mode : Mode) : c.rounded mode true = c.rounded mode.mirror false := by
  obtain ⟨k, rest⟩ := c
  cases mode <;> cases rest <;> rfl

theorem chosen_neg {mode : Mode} {x : ℚ} {k : ℤ} (h : Chosen mode.mirror x 1 k) : Chosen mode (-x) 1 (-k) := by
  have habs : |-x - (-k : ℤ) * 1| = |x - k * 1| := by
    push_cast
    rw [← abs_neg (x - k * 1)]
    congr 1
    ring
  cases mode with
  | rne =>
    simp only [Chosen, Mode.mirror] at h ⊢
    obtain ⟨hle, heven⟩ := h
    rw [habs]
    exact ⟨hle, fun ht => by have := heven ht; omega⟩
  | rtz =>
    simp only [Chosen, Mode.mirror] at h ⊢
    rw [habs]
    push_cast
    rw [neg_mul, abs_neg, abs_neg]
    exact h
  | rdn =>
    simp only [Chosen, Mode.mirror] at h ⊢
    push_cast
    constructor <;> linarith
  | rup =>
    simp only [Chosen, Mode.mirror] at h ⊢
    push_cast
    constructor <;> linarith
  | rmm =>
    simp only [Chosen, Mode.mirror] at h ⊢
    rw [habs]
    push_cast
    rw [neg_mul, abs_neg, abs_neg]
    exact h

/-- A nonnegative number is rounded to the integer that the mode chooses. -/
theorem chosen_rounded {x : ℚ} (hx : 0 ≤ x) (h : c.At x) (mode : Mode) :
    Chosen mode x 1 (c.rounded mode false : ℕ) := by
  have hlo := h.floor_le
  have hhi := h.lt_floor_add_one
  cases mode with
  | rdn =>
    simp only [Chosen, Cut.rounded_rdn, Int.cast_natCast, mul_one]
    exact ⟨hlo, hhi⟩
  | rtz =>
    simp only [Chosen, Cut.rounded_rtz, Int.cast_natCast, mul_one, abs_of_nonneg hx, Nat.abs_cast]
    exact ⟨abs_sub_lt_iff.2 ⟨by linarith, by linarith⟩, hlo⟩
  | rup =>
    obtain ⟨hr, hx'⟩ | ⟨hr, hlo', _⟩ := h.exact_or
    · simp [Chosen, Cut.rounded_of_exact hr, hx']
    · simp only [Chosen, Cut.rounded_rup hr]
      push_cast
      constructor <;> linarith
  | rne =>
    simp only [Chosen, Int.cast_natCast, mul_one]
    by_cases hr : c.rest = .half
    · have heven : c.rounded .rne false % 2 = 0 := by
        obtain ⟨k, rest⟩ := c
        obtain rfl : rest = .half := hr
        exact Cut.rounded_rne_half k
      exact ⟨(h.abs_sub_rounded_half hr .rne false).le, fun _ => by omega⟩
    · have hlt := h.abs_sub_rounded_lt hr (.inl rfl)
      exact ⟨hlt.le, fun heq => absurd heq hlt.ne⟩
  | rmm =>
    simp only [Chosen, Int.cast_natCast, mul_one]
    by_cases hr : c.rest = .half
    · have hup : c.rounded .rmm false = c.floor + 1 := by
        obtain ⟨k, rest⟩ := c
        obtain rfl : rest = .half := hr
        rfl
      refine ⟨(h.abs_sub_rounded_half hr .rmm false).le, fun _ => ?_⟩
      rw [abs_of_nonneg hx, Nat.abs_cast, hup]
      push_cast
      exact hhi
    · have hlt := h.abs_sub_rounded_lt hr (.inr rfl)
      exact ⟨hlt.le, fun heq => absurd heq hlt.ne⟩

/-- Of two different integers a mode chooses at most one. -/
theorem not_chosen_of_lt {mode : Mode} {x : ℚ} {k j : ℤ} (hlt : k < j) (hk : Chosen mode x 1 k) :
    ¬ Chosen mode x 1 j := by
  intro hj
  have hkj : (k : ℚ) + 1 ≤ j := by exact_mod_cast hlt
  cases mode with
  | rdn =>
    simp only [Chosen, mul_one] at hk hj
    linarith
  | rup =>
    simp only [Chosen, mul_one] at hk hj
    linarith
  | rtz =>
    simp only [Chosen, mul_one, abs_lt] at hk hj
    obtain ⟨⟨_, hkx⟩, hkabs⟩ := hk
    obtain ⟨⟨hjx, _⟩, hjabs⟩ := hj
    obtain hx | hx := le_total 0 x
    · rw [abs_of_nonneg hx] at hjabs
      linarith [le_abs_self (j : ℚ)]
    · rw [abs_of_nonpos hx] at hkabs
      linarith [neg_abs_le (k : ℚ)]
  | rne =>
    simp only [Chosen, mul_one, abs_le] at hk hj
    obtain ⟨⟨_, hkx⟩, hkeven⟩ := hk
    obtain ⟨⟨hjx, _⟩, hjeven⟩ := hj
    have hx : x = k + 1 / 2 := by linarith
    have hj' : (j : ℚ) = k + 1 := by linarith
    have hj'' : j = k + 1 := by exact_mod_cast hj'
    have := hkeven (by rw [hx]; norm_num)
    have := hjeven (by rw [hx, hj']; norm_num [abs_of_neg])
    omega
  | rmm =>
    simp only [Chosen, mul_one, abs_le] at hk hj
    obtain ⟨⟨_, hkx⟩, hkabs⟩ := hk
    obtain ⟨⟨hjx, _⟩, hjabs⟩ := hj
    have hx : x = k + 1 / 2 := by linarith
    have hj' : (j : ℚ) = k + 1 := by linarith
    have hkabs := hkabs (by rw [hx]; norm_num)
    have hjabs := hjabs (by rw [hx, hj']; norm_num [abs_of_neg])
    obtain hk0 | hk0 := le_or_gt 0 k
    · have : (0 : ℚ) ≤ k := by exact_mod_cast hk0
      rw [abs_of_nonneg this] at hkabs
      linarith [le_abs_self x]
    · have : (j : ℚ) ≤ 0 := by
        rw [hj']
        exact_mod_cast hk0
      rw [abs_of_nonpos this] at hjabs
      linarith [neg_abs_le x]

/-- A mode chooses one integer. -/
theorem chosen_unique {mode : Mode} {x : ℚ} {k j : ℤ} (hk : Chosen mode x 1 k) (hj : Chosen mode x 1 j) : k = j := by
  obtain h | h | h := lt_trichotomy k j
  · exact absurd hj (not_chosen_of_lt h hk)
  · exact h
  · exact absurd hk (not_chosen_of_lt h hj)

end

/-! ## Rounding to an integer -/

/-- The cut of a dyad is at its magnitude. -/
theorem Dyad.cut_at (x : Dyad) : x.cut.At |x.toRat| := by
  have hvalue : ((|x.toRat| : ℚ) : ℝ) = (Magnitude.ratio x.num.natAbs 1 x.exp).toReal / 2 ^ (0 : ℤ) := by
    simp [Magnitude.toReal, toRat, abs_mul]
  rw [← Cut.at_cast, hvalue]
  exact cut_ratio_at Nat.one_pos x.exp 0

theorem Dyad.toRat_neg_iff (x : Dyad) : x.toRat < 0 ↔ x.num < 0 := by
  have hpos : (0 : ℚ) < 2 ^ x.exp := by positivity
  simp [toRat, mul_neg_iff, hpos, hpos.not_gt]

/-- `roundToInt` gives the integer that the mode chooses. -/
theorem chosen_roundToInt (mode : Mode) (x : Dyad) : Chosen mode x.toRat 1 (roundToInt mode x) := by
  have hcut := x.cut_at
  unfold roundToInt
  by_cases hneg : x.num < 0
  · have hx := x.toRat_neg_iff.2 hneg
    rw [abs_of_neg hx] at hcut
    simp only [hneg, decide_true, if_true, Cut.rounded_true]
    simpa using chosen_neg (chosen_rounded (by linarith) hcut mode.mirror)
  · have hx := not_lt.1 (mt x.toRat_neg_iff.1 hneg)
    rw [abs_of_nonneg hx] at hcut
    simpa [hneg] using chosen_rounded hx hcut mode

/-- The rounded integer is the number itself exactly when nothing is cut off. -/
theorem roundToInt_eq_iff (mode : Mode) (x : Dyad) :
    (roundToInt mode x : ℚ) = x.toRat ↔ x.cut.inexact = false := by
  rw [← x.cut_at.rounded_eq_iff mode (decide (x.num < 0)), roundToInt]
  by_cases hneg : x.num < 0
  · rw [abs_of_neg (x.toRat_neg_iff.2 hneg), ← neg_eq_iff_eq_neg]
    simp [hneg]
  · rw [abs_of_nonneg (not_lt.1 (mt x.toRat_neg_iff.1 hneg))]
    simp [hneg]

/-! ## Conversion to an integer (R161) -/

theorem IntFmt.lo_le_hi (t : IntFmt) : t.lo ≤ t.hi := by cases t <;> decide

theorem fcvtInt_of_isFinite {fmt : Fmt} {t : IntFmt} {mode : Mode} {a : Bits fmt} {k : ℤ} (ha : isFinite a = true)
    (hk : Chosen mode (ratOf a) 1 k) :
    fcvtInt fmt t mode a =
      if k < t.lo then (t.lo, NV) else if t.hi < k then (t.hi, NV)
      else (k, if (k : ℚ) = ratOf a then 0b00000#5 else 0b00001#5) := by
  obtain rfl : roundToInt mode (valueOf a) = k := chosen_unique (chosen_roundToInt mode (valueOf a)) hk
  have hflag : flagIf (valueOf a).cut.inexact NX =
      if (roundToInt mode (valueOf a) : ℚ) = ratOf a then 0b00000#5 else 0b00001#5 := by
    simp only [ratOf, roundToInt_eq_iff]
    cases (valueOf a).cut.inexact <;> rfl
  simp only [fcvtInt, isNaN_of_isFinite ha, isInf_of_isFinite ha, Bool.false_eq_true, if_false, hflag]

/-- The four conversions of a format complete under one set of conditions, those to L and LU on RV64. -/
theorem fpToInt_forms {iw iwu il ilu : Instr} {ext : List (List Ext)} {ps : List Reg} {fmt : Fmt} {rd rs1 : Reg}
    {rm : BitVec 3} {s : State} {mode : Mode} (hw : conditions iw = needs ext ps) (hwu : conditions iwu = needs ext ps)
    (hl : conditions il = needs64 ext ps) (hlu : conditions ilu = needs64 ext ps) (hen : s.fpEnabled = true)
    (hm : s.resolveMode rm = some mode) (hext : (needs ext ps).extHolds s.cfg.ext = true)
    (hpairs : pairsOk s ps = true) :
    let next (y : IntFmt) : Outcome :=
      .next (xDone s rd ((BitVec.ofInt y.width (fcvtInt fmt y mode (s.readFp fmt rs1)).1).signExtend 64)
        (fcvtInt fmt y mode (s.readFp fmt rs1)).2)
    fpToInt iw fmt .w rd rs1 rm s = next .w ∧ fpToInt iwu fmt .wu rd rs1 rm s = next .wu ∧
      (s.cfg.xlen = .rv64 →
        fpToInt il fmt .l rd rs1 rm s = next .l ∧ fpToInt ilu fmt .lu rd rs1 rm s = next .lu) := by
  have hlegal {i : Instr} (hi : conditions i = needs ext ps) : legal i s = true :=
    legal_of hen (by rw [hi]; exact hext) (by rw [hi]; rfl) (by rw [hi]; exact hpairs)
  have hlegal64 {i : Instr} (hi : conditions i = needs64 ext ps) (hx : s.cfg.xlen = .rv64) : legal i s = true :=
    legal_of hen (by rw [hi]; exact hext) (by rw [hi]; exact xlenHolds_rv64 hx) (by rw [hi]; exact hpairs)
  exact ⟨fpToInt_of_legal (hlegal hw) hm, fpToInt_of_legal (hlegal hwu) hm, fun hx =>
    ⟨fpToInt_of_legal (hlegal64 hl hx) hm, fpToInt_of_legal (hlegal64 hlu hx) hm⟩⟩

/-- Settles O38: the chosen integer is unique and `roundToInt` gives it, so the clipping is that of the definition. -/
theorem floatToIntegerCompletes : Obligations.FloatToIntegerCompletes := by
  refine ⟨fun rd rs1 rm s mode hen hm =>
    ⟨fun hs => fpToInt_forms (iw := .fcvtWS rd rs1 rm) (iwu := .fcvtWuS rd rs1 rm) (il := .fcvtLS rd rs1 rm)
        (ilu := .fcvtLuS rd rs1 rm) rfl rfl rfl rfl hen hm (extHolds_single hs) (pairsOk_nil s),
      fun hd hp => fpToInt_forms (iw := .fcvtWD rd rs1 rm) (iwu := .fcvtWuD rd rs1 rm) (il := .fcvtLD rd rs1 rm)
        (ilu := .fcvtLuD rd rs1 rm) rfl rfl rfl rfl hen hm (extHolds_double hd) hp,
      fun hq => fpToInt_forms (iw := .fcvtWQ rd rs1 rm) (iwu := .fcvtWuQ rd rs1 rm) (il := .fcvtLQ rd rs1 rm)
        (ilu := .fcvtLuQ rd rs1 rm) rfl rfl rfl rfl hen hm (extHolds_quad hq) (pairsOk_nil s),
      fun hh => fpToInt_forms (iw := .fcvtWH rd rs1 rm) (iwu := .fcvtWuH rd rs1 rm) (il := .fcvtLH rd rs1 rm)
        (ilu := .fcvtLuH rd rs1 rm) rfl rfl rfl rfl hen hm (extHolds_half hh) (pairsOk_nil s)⟩,
    fun fmt y mode a k => ?_⟩
  intro lo hi
  have hlo : y.lo = lo := by cases y <;> rfl
  have hhi : y.hi = hi := by cases y <;> rfl
  rw [← hlo, ← hhi]
  refine ⟨fun ha hk => ?_, fun ha => ?_, fun ha => ?_⟩
  · rw [fcvtInt_of_isFinite ha hk]
    exact ⟨fun h h' => by rw [if_neg h.not_gt, if_neg h'.not_gt], fun h => if_pos h,
      fun h => by rw [if_neg ((y.lo_le_hi.trans_lt h).not_gt), if_pos h]; rfl⟩
  · simp [fcvtInt, ha, NV]
  · simp [fcvtInt, isNaN_of_isInf ha, ha, NV]

end Sys2Proof.Machine

/-!
Rounding to a format: the candidate has p significant bits, its encoding is finite with the candidate's value, and so
no rounding gives a NaN (40_fp_common.md R131, R145).
-/

namespace Sys2Proof.Machine

/-! ## The exponents of a format (R130) -/

theorem Fmt.expMax_eq (fmt : Fmt) : (fmt.expMax : ℤ) = 2 * fmt.bias + 1 := by cases fmt <;> decide

theorem Fmt.one_lt_bias (fmt : Fmt) : 1 < fmt.bias := by cases fmt <;> decide

/-! ## The candidate (R145) -/

section
variable {c : Cut} {x : ℝ} {n : ℕ}

theorem Cut.At.rounded_le_two_pow (h : c.At x) (hx : x < 2 ^ n) (mode : Mode) (neg : Bool) :
    c.rounded mode neg ≤ 2 ^ n := by
  have hfloor : c.floor < 2 ^ n := by exact_mod_cast h.floor_le.trans_lt hx
  obtain hk | hk := c.rounded_eq_or mode neg <;> omega

theorem Cut.At.two_pow_le_floor (h : c.At x) (hx : 2 ^ n ≤ x) : 2 ^ n ≤ c.floor := by
  have hlt : 2 ^ n < c.floor + 1 := by exact_mod_cast hx.trans_lt h.lt_floor_add_one
  omega

theorem Cut.floor_le_rounded (c : Cut) (mode : Mode) (neg : Bool) : c.floor ≤ c.rounded mode neg := by
  obtain hk | hk := c.rounded_eq_or mode neg <;> omega

end

/-- The candidate that a rounding chooses, in the unit of the format at the number. -/
def candidate (fmt : Fmt) (mode : Mode) (neg : Bool) (x : Magnitude) : ℕ :=
  (x.cut (quantum fmt x.ilog2)).rounded mode neg

section
variable {fmt : Fmt} {x : Magnitude}

/-- In its unit a number is below `2^p`. -/
theorem toReal_div_quantum_lt (hx : x.Pos) :
    x.toReal / 2 ^ quantum fmt x.ilog2 < (2 : ℝ) ^ (fmt.fracBits + 1) := by
  have hle : x.ilog2 + 1 ≤ quantum fmt x.ilog2 + (fmt.fracBits + 1 : ℕ) := by
    unfold quantum
    push_cast
    omega
  rw [div_lt_iff₀ (by positivity), ← zpow_natCast, ← zpow_add₀ two_ne_zero, add_comm]
  exact (Magnitude.ilog2_spec hx).right.trans_le (zpow_le_zpow_right₀ one_le_two hle)

/-- From the least normal exponent on a number has p significant bits in its unit. -/
theorem two_pow_le_toReal_div_quantum (hx : x.Pos) (hl : fmt.emin ≤ x.ilog2) :
    (2 : ℝ) ^ fmt.fracBits ≤ x.toReal / 2 ^ quantum fmt x.ilog2 := by
  have heq : (fmt.fracBits : ℤ) + quantum fmt x.ilog2 = x.ilog2 := by
    unfold quantum
    omega
  rw [le_div_iff₀ (by positivity), ← zpow_natCast, ← zpow_add₀ two_ne_zero, heq]
  exact (Magnitude.ilog2_spec hx).left

theorem candidate_le (hx : x.Pos) (mode : Mode) (neg : Bool) : candidate fmt mode neg x ≤ 2 ^ (fmt.fracBits + 1) :=
  (Magnitude.cut_at hx _).rounded_le_two_pow (toReal_div_quantum_lt hx) mode neg

theorem two_pow_le_candidate (hx : x.Pos) (hl : fmt.emin ≤ x.ilog2) (mode : Mode) (neg : Bool) :
    2 ^ fmt.fracBits ≤ candidate fmt mode neg x :=
  ((Magnitude.cut_at hx _).two_pow_le_floor (two_pow_le_toReal_div_quantum hx hl)).trans
    (Cut.floor_le_rounded _ mode neg)

end

/-! ## The encoding of a candidate (R131, R145) -/

/-- `k` is a candidate in the unit `2^q` of a format: at most `2^p`, with p significant bits above the least unit, and
below the overflow threshold. -/
structure IsCandidate (fmt : Fmt) (k : ℕ) (q : ℤ) : Prop where
  unit_le : fmt.emin - fmt.fracBits ≤ q
  le : k ≤ 2 ^ (fmt.fracBits + 1)
  normal : fmt.emin - fmt.fracBits < q → 2 ^ fmt.fracBits ≤ k
  lt_overflow : k < 2 ^ (fmt.emax + 1 - q).toNat

section
variable {fmt : Fmt} {k : ℕ} {q : ℤ}

theorem IsCandidate.encodeMag_lt (h : IsCandidate fmt k q) : encodeMag fmt k q < fmt.infMag := by
  obtain ⟨hunit, hle, hnormal, hover⟩ := h
  obtain ⟨t, rfl⟩ : ∃ t : ℕ, q = fmt.emin - fmt.fracBits + t := ⟨(q - (fmt.emin - fmt.fracBits)).toNat, by omega⟩
  have hmax := fmt.expMax_eq
  have hbias := fmt.one_lt_bias
  have hexp : (fmt.emax + 1 - (fmt.emin - fmt.fracBits + t)).toNat = fmt.expMax - 1 + fmt.fracBits - t := by
    simp only [Fmt.emax, Fmt.emin]
    omega
  rw [hexp] at hover
  rw [encodeMag, add_sub_cancel_left, Int.toNat_natCast, Fmt.infMag]
  have hm : 0 < 2 ^ fmt.fracBits := by positivity
  have ht : t + 2 ≤ fmt.expMax := by
    by_contra hlt
    have hk := hnormal (by omega)
    have := Nat.pow_le_pow_right two_pos (show fmt.expMax - 1 + fmt.fracBits - t ≤ fmt.fracBits by omega)
    omega
  rw [pow_succ'] at hle
  obtain ht' | ht' := ht.eq_or_lt
  · rw [show fmt.expMax - 1 + fmt.fracBits - t = fmt.fracBits + 1 by omega, pow_succ'] at hover
    nlinarith
  · have : t + 3 ≤ fmt.expMax := ht'
    nlinarith

theorem IsCandidate.encodeMag_lt_two_pow (h : IsCandidate fmt k q) : encodeMag fmt k q < 2 ^ (fmt.width - 1) :=
  h.encodeMag_lt.trans ((Nat.le_add_right _ _).trans_lt fmt.infMag_add_lt)

/-- The pattern of a candidate is finite. -/
theorem IsCandidate.isFinite_pack (h : IsCandidate fmt k q) (neg : Bool) :
    isFinite (pack fmt neg (encodeMag fmt k q)) = true := by
  rw [isFinite_iff, magOf_pack h.encodeMag_lt_two_pow]
  exact h.encodeMag_lt

theorem IsCandidate.signOf_pack (h : IsCandidate fmt k q) (neg : Bool) :
    signOf (pack fmt neg (encodeMag fmt k q)) = neg := Machine.signOf_pack h.encodeMag_lt_two_pow

theorem expOf_fracOf_of_magOf {v : Bits fmt} {E T : ℕ} (h : magOf v = E * 2 ^ fmt.fracBits + T)
    (hT : T < 2 ^ fmt.fracBits) : expOf v = E ∧ fracOf v = T := by
  rw [expOf_eq_magOf_div, fracOf_eq_magOf_mod, h, Nat.add_comm, Nat.add_mul_div_right _ _ (by positivity),
    Nat.add_mul_mod_self_right, Nat.div_eq_of_lt hT, Nat.mod_eq_of_lt hT, Nat.zero_add]
  exact ⟨rfl, rfl⟩

theorem absOf_of_magOf_subnormal {v : Bits fmt} (h : magOf v < 2 ^ fmt.fracBits) :
    absOf v = magOf v * (2 : ℚ) ^ (fmt.emin - fmt.fracBits) := by
  obtain ⟨hE, hT⟩ := expOf_fracOf_of_magOf (v := v) (E := 0) (by omega) h
  rw [absOf, sigOf_of_expOf_eq_zero hE, unitOf_of_expOf_eq_zero hE, hT]

theorem absOf_of_magOf_normal {v : Bits fmt} {t T : ℕ} (h : magOf v = (t + 1) * 2 ^ fmt.fracBits + T)
    (hT : T < 2 ^ fmt.fracBits) :
    absOf v = (2 ^ fmt.fracBits + T : ℕ) * (2 : ℚ) ^ (fmt.emin - fmt.fracBits + t) := by
  obtain ⟨hE, hT⟩ := expOf_fracOf_of_magOf h hT
  have hpos : 0 < expOf v := by omega
  have hunit : ((t + 1 : ℕ) : ℤ) - fmt.bias - fmt.fracBits = fmt.emin - fmt.fracBits + t := by
    rw [Fmt.emin]
    push_cast
    ring
  rw [absOf, sigOf_of_expOf_pos hpos, unitOf_of_expOf_pos hpos, hE, hT, hunit]

/-- The pattern of a candidate has the candidate's value: a subnormal number, a normal number with the hidden bit, or
the least number of the next binade. -/
theorem IsCandidate.absOf_pack (h : IsCandidate fmt k q) (neg : Bool) :
    absOf (pack fmt neg (encodeMag fmt k q)) = k * (2 : ℚ) ^ q := by
  have hmag : magOf (pack fmt neg (encodeMag fmt k q)) = encodeMag fmt k q := magOf_pack h.encodeMag_lt_two_pow
  generalize pack fmt neg (encodeMag fmt k q) = v at hmag
  obtain ⟨hunit, hle, hnormal, -⟩ := h
  obtain ⟨t, rfl⟩ : ∃ t : ℕ, q = fmt.emin - fmt.fracBits + t := ⟨(q - (fmt.emin - fmt.fracBits)).toNat, by omega⟩
  rw [encodeMag, add_sub_cancel_left, Int.toNat_natCast] at hmag
  rw [pow_succ'] at hle
  obtain hk | hk := lt_or_ge k (2 ^ fmt.fracBits)
  · obtain rfl : t = 0 := by
      by_contra ht
      exact absurd (hnormal (by omega)) hk.not_ge
    rw [Nat.zero_mul, Nat.zero_add] at hmag
    rw [absOf_of_magOf_subnormal (hmag.trans_lt hk), hmag, Nat.cast_zero, add_zero]
  · obtain hk' | rfl := hle.lt_or_eq
    · rw [absOf_of_magOf_normal (t := t) (T := k - 2 ^ fmt.fracBits) (by rw [hmag, add_mul]; omega) (by omega),
        Nat.add_sub_cancel' hk]
    · rw [absOf_of_magOf_normal (t := t + 1) (T := 0) (by rw [hmag]; ring) (by positivity), Nat.cast_succ, ← add_assoc,
        zpow_add_one₀ two_ne_zero]
      push_cast
      ring

end

/-! ## Rounding (R145) -/

section
variable {fmt : Fmt} {mode : Mode} {neg : Bool} {x : Magnitude}

theorem roundReal_eq (fmt : Fmt) (mode : Mode) (neg : Bool) (x : Magnitude) :
    roundReal fmt mode neg x =
      if 2 ^ (fmt.emax + 1 - quantum fmt x.ilog2).toNat ≤ candidate fmt mode neg x then
        (overflowResult fmt mode neg, overflowFlags)
      else (pack fmt neg (encodeMag fmt (candidate fmt mode neg x) (quantum fmt x.ilog2)),
        roundingFlags (x.cut (quantum fmt x.ilog2)).inexact (isTiny fmt mode neg x)) := rfl

/-- Without overflow the chosen candidate is one of the format. -/
theorem isCandidate_candidate (hx : x.Pos)
    (h : candidate fmt mode neg x < 2 ^ (fmt.emax + 1 - quantum fmt x.ilog2).toNat) :
    IsCandidate fmt (candidate fmt mode neg x) (quantum fmt x.ilog2) where
  unit_le := by
    unfold quantum
    omega
  le := candidate_le hx mode neg
  normal hq := two_pow_le_candidate hx (by unfold quantum at hq; omega) mode neg
  lt_overflow := h

theorem isNaN_infOf : isNaN (infOf fmt neg) = false := isNaN_pack le_rfl

theorem isNaN_zeroOf : isNaN (zeroOf fmt neg) = false := isNaN_pack (Nat.zero_le _)

theorem isNaN_maxFiniteOf : isNaN (maxFiniteOf fmt neg) = false := isNaN_pack (fmt.infMag.sub_le 1)

theorem isNaN_overflowResult : isNaN (overflowResult fmt mode neg) = false := by
  unfold overflowResult
  cases mode with
  | rne | rmm => exact isNaN_infOf
  | rtz => exact isNaN_maxFiniteOf
  | rup => cases neg <;> [exact isNaN_infOf; exact isNaN_maxFiniteOf]
  | rdn => cases neg <;> [exact isNaN_maxFiniteOf; exact isNaN_infOf]

/-- No rounding gives a NaN. -/
theorem isNaN_roundReal (hx : x.Pos) : isNaN (roundReal fmt mode neg x).1 = false := by
  rw [roundReal_eq]
  split_ifs with h
  · exact isNaN_overflowResult
  · exact isNaN_of_isFinite ((isCandidate_candidate hx (not_le.1 h)).isFinite_pack neg)

end

end Sys2Proof.Machine

/-!
Computed NaNs are canonical: every operation gives the canonical NaN, an operand that is no NaN, an infinity, a zero or
a rounded number (40_fp_common.md R134).
-/

namespace Sys2Proof.Machine

/-- A pattern that is no NaN, or the canonical one. -/
def Canonical {fmt : Fmt} (v : Bits fmt) : Prop := isNaN v = true → v = cnan fmt

section
variable {fmt : Fmt}

theorem canonical_cnan : Canonical (cnan fmt) := fun _ => rfl

theorem canonical_of_not_isNaN {v : Bits fmt} (h : isNaN v = false) : Canonical v := fun h' => by simp [h] at h'

theorem canonical_infOf (neg : Bool) : Canonical (infOf fmt neg) := canonical_of_not_isNaN isNaN_infOf

theorem canonical_zeroOf (neg : Bool) : Canonical (zeroOf fmt neg) := canonical_of_not_isNaN isNaN_zeroOf

theorem canonical_roundReal {x : Magnitude} (hx : x.Pos) (mode : Mode) (neg : Bool) :
    Canonical (roundReal fmt mode neg x).1 := canonical_of_not_isNaN (isNaN_roundReal hx)

theorem canonical_roundDyad {x : Dyad} (hx : x.num ≠ 0) (mode : Mode) : Canonical (roundDyad fmt mode x).1 :=
  canonical_roundReal (x := .ratio x.num.natAbs 1 x.exp) ⟨Int.natAbs_pos.2 hx, Nat.one_pos⟩ mode _

/-- A branch is canonical when both of its answers are. -/
theorem canonical_ite {p : Prop} [Decidable p] {r r' : Result fmt} (h : p → Canonical r.1)
    (h' : ¬p → Canonical r'.1) : Canonical (if p then r else r').1 := by
  split
  next hp => exact h hp
  next hp => exact h' hp

/-- A number that is no zero has a significand. -/
theorem sigOf_pos {v : Bits fmt} (h : isZero v = false) : 0 < sigOf v := by
  rw [Nat.pos_iff_ne_zero]
  intro hsig
  have hm : 0 < 2 ^ fmt.fracBits := by positivity
  unfold sigOf at hsig
  split at hsig
  next hexp => simp [isZero, hexp, hsig] at h
  next => omega

theorem valueOf_num_ne_zero {v : Bits fmt} (h : isZero v = false) : (valueOf v).num ≠ 0 := by
  have := sigOf_pos h
  unfold valueOf
  dsimp only
  split <;> omega

theorem rootOf_pos {sig : ℕ} (h : 0 < sig) (unit : ℤ) : (rootOf sig unit).Pos := by
  unfold rootOf
  split
  · exact h
  · exact Nat.mul_pos two_pos h

variable (mode : Mode) (a b c : Bits fmt)

theorem canonical_nanResult2 : Canonical (nanResult2 fmt a b).1 := canonical_cnan

theorem canonical_invalidResult : Canonical (invalidResult fmt).1 := canonical_cnan

theorem canonical_fadd : Canonical (fadd fmt mode a b).1 := by
  unfold fadd
  refine canonical_ite (fun _ => canonical_nanResult2 a b) fun hnan => ?_
  simp only [Bool.or_eq_true, not_or, Bool.not_eq_true] at hnan
  obtain ⟨ha, hb⟩ := hnan
  refine canonical_ite (fun _ => canonical_ite (fun _ => canonical_of_not_isNaN ha) fun _ => canonical_invalidResult)
    fun _ => canonical_ite (fun _ => canonical_of_not_isNaN ha) fun _ =>
      canonical_ite (fun _ => canonical_of_not_isNaN hb) fun _ => ?_
  refine canonical_ite (fun _ => ?_) fun hx => canonical_roundDyad hx mode
  dsimp only
  split
  · exact canonical_zeroOf _
  · exact canonical_zeroOf _

theorem canonical_fsub : Canonical (fsub fmt mode a b).1 :=
  canonical_ite (fun _ => canonical_nanResult2 a b) fun _ => canonical_fadd mode a (negate b)

theorem canonical_fmul : Canonical (fmul fmt mode a b).1 := by
  unfold fmul
  refine canonical_ite (fun _ => canonical_nanResult2 a b) fun _ => canonical_ite (fun _ => canonical_invalidResult)
    fun _ => canonical_ite (fun _ => canonical_infOf _) fun _ => canonical_ite (fun _ => canonical_zeroOf _)
      fun hz => ?_
  simp only [Bool.or_eq_true, not_or, Bool.not_eq_true] at hz
  obtain ⟨ha, hb⟩ := hz
  exact canonical_roundDyad (mul_ne_zero (valueOf_num_ne_zero ha) (valueOf_num_ne_zero hb)) mode

theorem canonical_fdiv : Canonical (fdiv fmt mode a b).1 := by
  unfold fdiv
  refine canonical_ite (fun _ => canonical_nanResult2 a b) fun _ => canonical_ite
    (fun _ => canonical_ite (fun _ => canonical_invalidResult) fun _ => canonical_infOf _) fun _ =>
      canonical_ite (fun _ => canonical_zeroOf _) fun _ => canonical_ite
        (fun _ => canonical_ite (fun _ => canonical_invalidResult) fun _ => canonical_infOf _) fun hb =>
          canonical_ite (fun _ => canonical_zeroOf _) fun ha => ?_
  exact canonical_roundReal (x := .ratio _ _ _)
    ⟨sigOf_pos (Bool.eq_false_iff.2 ha), sigOf_pos (Bool.eq_false_iff.2 hb)⟩ mode _

theorem canonical_fsqrt : Canonical (fsqrt fmt mode a).1 :=
  canonical_ite (fun _ => canonical_cnan) fun hnan =>
    canonical_ite (fun _ => canonical_of_not_isNaN (Bool.eq_false_iff.2 hnan)) fun hz =>
      canonical_ite (fun _ => canonical_invalidResult) fun _ =>
        canonical_ite (fun _ => canonical_of_not_isNaN (Bool.eq_false_iff.2 hnan)) fun _ =>
          canonical_roundReal (rootOf_pos (sigOf_pos (Bool.eq_false_iff.2 hz)) _) mode _

theorem canonical_ffma (p q : Bool) : Canonical (ffma fmt p q mode a b c).1 := by
  unfold ffma
  refine canonical_ite (fun _ => canonical_cnan) fun _ => canonical_ite (fun _ => canonical_invalidResult) fun _ =>
    canonical_ite (fun _ => canonical_ite (fun _ => canonical_invalidResult) fun _ => canonical_infOf _) fun _ =>
      canonical_ite (fun _ => canonical_infOf _) fun _ =>
        canonical_ite (fun _ => ?_) fun hx => canonical_roundDyad hx mode
  dsimp only
  split
  · exact canonical_zeroOf _
  · exact canonical_zeroOf _

theorem canonical_pick {a b : Bits fmt} (m : Bool) (ha : isNaN a = false) (hb : isNaN b = false) :
    Canonical (pick m a b) := canonical_of_not_isNaN (pick_isNaN ha hb)

theorem canonical_fminmax (m : Bool) : Canonical (fminmax fmt m a b).1 := by
  unfold fminmax
  refine canonical_ite (fun _ => canonical_cnan) fun hboth => canonical_ite (fun ha => ?_) fun ha =>
    canonical_ite (fun _ => canonical_of_not_isNaN (Bool.eq_false_iff.2 ha)) fun hb =>
      canonical_pick m (Bool.eq_false_iff.2 ha) (Bool.eq_false_iff.2 hb)
  rw [ha, Bool.true_and] at hboth
  exact canonical_of_not_isNaN (Bool.eq_false_iff.2 hboth)

theorem canonical_fminmaxm (m : Bool) : Canonical (fminmaxm fmt m a b).1 := by
  unfold fminmaxm
  refine canonical_ite (fun _ => canonical_cnan) fun hnan => ?_
  simp only [Bool.or_eq_true, not_or, Bool.not_eq_true] at hnan
  exact canonical_pick m hnan.left hnan.right

theorem canonical_encodeInt (neg : Bool) (n : ℤ) : Canonical (encodeInt fmt neg n) := by
  unfold encodeInt
  split
  next => exact canonical_zeroOf _
  next hn => exact canonical_roundReal (x := .ratio _ _ _) ⟨Int.natAbs_pos.2 hn, Nat.one_pos⟩ .rtz neg

theorem canonical_fround (exact : Bool) : Canonical (fround fmt exact mode a).1 :=
  canonical_ite (fun _ => canonical_cnan) fun hnan =>
    canonical_ite (fun _ => canonical_of_not_isNaN (Bool.eq_false_iff.2 hnan)) fun _ => canonical_encodeInt _ _

theorem canonical_fcvtFp (n : ℤ) : Canonical (fcvtFp fmt mode n).1 :=
  canonical_ite (fun _ => canonical_zeroOf _) fun hn => canonical_roundDyad (x := ⟨n, 0⟩) hn mode

theorem canonical_fcvtFf {src : Fmt} (d : Bits src) : Canonical (fcvtFf fmt src mode d).1 :=
  canonical_ite (fun _ => canonical_cnan) fun _ => canonical_ite (fun _ => canonical_infOf _) fun _ =>
    canonical_ite (fun _ => canonical_zeroOf _) fun hz =>
      canonical_roundDyad (valueOf_num_ne_zero (Bool.eq_false_iff.2 hz)) mode

end

/-- Settles O55: a result is the canonical NaN, no NaN, or rounded, and no rounding gives a NaN. -/
theorem naNResultsAreCanonical : Obligations.NaNResultsAreCanonical := by
  intro fmt src mode a b c d n p q r hr
  change Canonical r.1
  simp only [List.mem_cons, List.not_mem_nil, or_false] at hr
  obtain rfl | rfl | rfl | rfl | rfl | rfl | rfl | rfl | rfl | rfl | rfl := hr
  · exact canonical_fadd mode a b
  · exact canonical_fsub mode a b
  · exact canonical_fmul mode a b
  · exact canonical_fdiv mode a b
  · exact canonical_fsqrt mode a
  · exact canonical_ffma mode a b c p q
  · exact canonical_fminmax a b p
  · exact canonical_fminmaxm a b p
  · exact canonical_fround mode a p
  · exact canonical_fcvtFp mode n
  · exact canonical_fcvtFf mode d

end Sys2Proof.Machine

/-!
The square root (40_fp_common.md R153): the root's binade lies inside the normal numbers, so the rounding neither
overflows nor underflows, and the candidate's square is compared with the operand.
-/

namespace Sys2Proof.Machine

/-! ## The exact root -/

theorem sqrt_mul_two_zpow (r : ℕ) (h : ℤ) : √((r : ℝ) * 2 ^ (2 * h)) = √r * 2 ^ h := by
  rw [Real.sqrt_mul (by positivity), mul_comm 2 h, zpow_mul, zpow_ofNat, Real.sqrt_sq (by positivity)]

theorem rootOf_toReal (sig : ℕ) (unit : ℤ) : (rootOf sig unit).toReal = √((sig : ℝ) * 2 ^ unit) := by
  unfold rootOf
  split
  next h =>
    obtain ⟨j, rfl⟩ := Int.dvd_of_emod_eq_zero h
    rw [sqrt_mul_two_zpow, Int.mul_ediv_cancel_left _ two_ne_zero]
    rfl
  next h =>
    obtain ⟨j, rfl⟩ : ∃ j, unit = 2 * j + 1 := ⟨unit / 2, by omega⟩
    have hodd : (sig : ℝ) * 2 ^ (2 * j + 1) = (2 * sig : ℕ) * 2 ^ (2 * j) := by
      rw [zpow_add_one₀ two_ne_zero]
      push_cast
      ring
    rw [hodd, sqrt_mul_two_zpow, add_sub_cancel_right, Int.mul_ediv_cancel_left _ two_ne_zero]
    rfl

/-- A number has one binade. -/
theorem Magnitude.ilog2_eq {x : Magnitude} (hx : x.Pos) {e : ℤ} (hlo : (2 : ℝ) ^ e ≤ x.toReal)
    (hhi : x.toReal < (2 : ℝ) ^ (e + 1)) : x.ilog2 = e := by
  obtain ⟨hle, hlt⟩ := Magnitude.ilog2_spec hx
  have h1 : e < x.ilog2 + 1 := (zpow_lt_zpow_iff_right₀ one_lt_two).1 (hlo.trans_lt hlt)
  have h2 : x.ilog2 < e + 1 := (zpow_lt_zpow_iff_right₀ one_lt_two).1 (hle.trans_lt hhi)
  omega

/-! ## The binade of the root -/

theorem Fmt.fracBits_lt_bias (fmt : Fmt) : (fmt.fracBits : ℤ) < fmt.bias := by cases fmt <;> decide

theorem four_zpow (e : ℤ) : (4 : ℚ) ^ e = 2 ^ (2 * e) := by
  rw [zpow_mul]
  norm_num

section
variable {fmt : Fmt} {a : Bits fmt} {e : ℤ}

/-- A nonzero magnitude reaches the least unit. -/
theorem two_zpow_le_absOf (hz : isZero a = false) : (2 : ℚ) ^ (fmt.emin - fmt.fracBits) ≤ absOf a := by
  have hunit : fmt.emin - fmt.fracBits ≤ unitOf a := by
    unfold unitOf Fmt.emin
    omega
  calc (2 : ℚ) ^ (fmt.emin - fmt.fracBits) ≤ 2 ^ unitOf a := zpow_le_zpow_right₀ one_le_two hunit
    _ ≤ absOf a := le_mul_of_one_le_left (by positivity) (by exact_mod_cast sigOf_pos hz)

/-- A finite magnitude is below the overflow threshold. -/
theorem absOf_lt_two_zpow (ha : isFinite a = true) : absOf a < (2 : ℚ) ^ (fmt.bias + 1) := by
  have hexp : expOf a ≠ fmt.expMax := by simpa [isFinite] using ha
  have hle := expOf_le a
  have hmax := fmt.expMax_eq
  exact (absOf_lt a).trans_le (zpow_le_zpow_right₀ one_le_two (by omega))

/-- The root of a number of the format lies well inside its normal range. -/
theorem root_exponent_range (ha : isFinite a = true) (hz : isZero a = false) (hlo : (4 : ℚ) ^ e ≤ absOf a)
    (hhi : absOf a < (4 : ℚ) ^ (e + 1)) : fmt.emin ≤ e ∧ e < fmt.emax := by
  have hbias := fmt.fracBits_lt_bias
  rw [four_zpow] at hlo hhi
  have h1 : fmt.emin - fmt.fracBits < 2 * (e + 1) :=
    (zpow_lt_zpow_iff_right₀ one_lt_two).1 ((two_zpow_le_absOf hz).trans_lt hhi)
  have h2 : 2 * e < fmt.bias + 1 := (zpow_lt_zpow_iff_right₀ one_lt_two).1 (hlo.trans_lt (absOf_lt_two_zpow ha))
  have hone := fmt.one_lt_bias
  unfold Fmt.emin Fmt.emax at *
  omega

/-- The root as a magnitude. -/
theorem rootOf_toReal_eq_sqrt (a : Bits fmt) : (rootOf (sigOf a) (unitOf a)).toReal = √((absOf a : ℚ) : ℝ) := by
  rw [rootOf_toReal, absOf]
  push_cast
  rfl

theorem ilog2_rootOf (hz : isZero a = false) (hlo : (4 : ℚ) ^ e ≤ absOf a) (hhi : absOf a < (4 : ℚ) ^ (e + 1)) :
    (rootOf (sigOf a) (unitOf a)).ilog2 = e := by
  have hsq (j : ℤ) : (2 : ℝ) ^ (2 * j) = (2 ^ j) ^ 2 := by rw [mul_comm, zpow_mul, zpow_ofNat]
  apply Magnitude.ilog2_eq (rootOf_pos (sigOf_pos hz) _) <;> rw [rootOf_toReal_eq_sqrt]
  · rw [Real.le_sqrt' (by positivity), ← hsq]
    rw [four_zpow] at hlo
    simpa using (Rat.cast_le (K := ℝ)).2 hlo
  · rw [Real.sqrt_lt' (by positivity), ← hsq]
    rw [four_zpow] at hhi
    simpa using (Rat.cast_lt (K := ℝ)).2 hhi

/-- The root is never tiny, and its result is the candidate in the unit of its binade, with NX when it is cut. -/
theorem fsqrt_spec (mode : Mode) (ha : isFinite a = true) (hs : signOf a = false) (hz : isZero a = false)
    (hlo : (4 : ℚ) ^ e ≤ absOf a) (hhi : absOf a < (4 : ℚ) ^ (e + 1)) :
    ∃ c : Cut, c.At (√((absOf a : ℚ) : ℝ) / 2 ^ (e - fmt.fracBits)) ∧ 2 ^ fmt.fracBits ≤ c.floor ∧
      isFinite (fsqrt fmt mode a).1 = true ∧ signOf (fsqrt fmt mode a).1 = false ∧
      ratOf (fsqrt fmt mode a).1 = c.rounded mode false * (2 : ℚ) ^ (e - fmt.fracBits) ∧
      (fsqrt fmt mode a).2 = flagIf c.inexact NX := by
  have hroot := rootOf_pos (sigOf_pos hz) (unitOf a)
  obtain ⟨hmin, hmax⟩ := root_exponent_range ha hz hlo hhi
  have hfsqrt : fsqrt fmt mode a = roundReal fmt mode false (rootOf (sigOf a) (unitOf a)) := by
    simp [fsqrt, isNaN_of_isFinite ha, isInf_of_isFinite ha, hz, hs]
  have hilog := ilog2_rootOf hz hlo hhi
  rw [hfsqrt, ← rootOf_toReal_eq_sqrt]
  generalize rootOf (sigOf a) (unitOf a) = x at hroot hilog
  subst hilog
  have hquantum : quantum fmt x.ilog2 = x.ilog2 - fmt.fracBits := by rw [quantum, max_eq_left hmin]
  have hnorm := two_pow_le_candidate hroot hmin mode false
  have hover : candidate fmt mode false x < 2 ^ (fmt.emax + 1 - quantum fmt x.ilog2).toNat :=
    (candidate_le hroot mode false).trans_lt (Nat.pow_lt_pow_right one_lt_two (by rw [hquantum]; omega))
  have htiny : isTiny fmt mode false x = false := by
    have hle : 2 ^ (fmt.emin - (x.ilog2 - fmt.fracBits)).toNat ≤ 2 ^ fmt.fracBits :=
      Nat.pow_le_pow_right two_pos (by omega)
    rw [candidate, hquantum] at hnorm
    simpa [isTiny] using hle.trans hnorm
  have hcand := isCandidate_candidate hroot hover
  have hfloor : 2 ^ fmt.fracBits ≤ (x.cut (quantum fmt x.ilog2)).floor :=
    (Magnitude.cut_at hroot _).two_pow_le_floor (two_pow_le_toReal_div_quantum hroot hmin)
  rw [roundReal_eq, if_neg hover.not_ge, htiny]
  refine ⟨x.cut (quantum fmt x.ilog2), ?_, hfloor, hcand.isFinite_pack false, hcand.signOf_pack false, ?_, ?_⟩
  · rw [← hquantum]
    exact Magnitude.cut_at hroot _
  · rw [ratOf_of_pos (hcand.signOf_pack false), hcand.absOf_pack, ← hquantum]
    rfl
  · simp [roundingFlags, flagIf, noFlags]

end

/-! ## Squares of candidates against the operand -/

section
variable {x u j : ℚ}

/-- A multiple of the unit against the root, by squares. -/
theorem mul_self_lt_iff (hu : 0 < u) (hj : 0 ≤ j) : (j * u) * (j * u) < x ↔ (j : ℝ) < √(x : ℝ) / (u : ℚ) := by
  have hu' : (0 : ℝ) < (u : ℚ) := by exact_mod_cast hu
  have hj' : (0 : ℝ) ≤ (j : ℚ) := by exact_mod_cast hj
  rw [lt_div_iff₀ hu', Real.lt_sqrt (by positivity), sq, ← Rat.cast_lt (K := ℝ)]
  push_cast
  rfl

theorem le_mul_self_iff (hu : 0 < u) (hj : 0 ≤ j) : x ≤ (j * u) * (j * u) ↔ √(x : ℝ) / (u : ℚ) ≤ j := by
  rw [← not_lt, mul_self_lt_iff hu hj, not_lt]

theorem mul_self_le_iff (hx : 0 ≤ x) (hu : 0 < u) (hj : 0 ≤ j) :
    (j * u) * (j * u) ≤ x ↔ (j : ℝ) ≤ √(x : ℝ) / (u : ℚ) := by
  have hu' : (0 : ℝ) < (u : ℚ) := by exact_mod_cast hu
  have hj' : (0 : ℝ) ≤ (j : ℚ) := by exact_mod_cast hj
  have hx' : (0 : ℝ) ≤ (x : ℚ) := by exact_mod_cast hx
  rw [le_div_iff₀ hu', Real.le_sqrt (by positivity) hx', sq, ← Rat.cast_le (K := ℝ)]
  push_cast
  rfl

theorem lt_mul_self_iff (hx : 0 ≤ x) (hu : 0 < u) (hj : 0 ≤ j) :
    x < (j * u) * (j * u) ↔ √(x : ℝ) / (u : ℚ) < j := by
  rw [← not_le, mul_self_le_iff hx hu hj, not_le]

theorem mul_self_eq_iff (hx : 0 ≤ x) (hu : 0 < u) (hj : 0 ≤ j) :
    (j * u) * (j * u) = x ↔ (j : ℝ) = √(x : ℝ) / (u : ℚ) := by
  rw [le_antisymm_iff, le_antisymm_iff, mul_self_le_iff hx hu hj, le_mul_self_iff hu hj]

end

section
variable {K : Type} [Field K] [LinearOrder K] [IsStrictOrderedRing K] {c : Cut}

/-- A cut at a natural number is rounded to it. -/
theorem Cut.At.rounded_of_natCast {n : ℕ} (h : c.At (n : K)) (mode : Mode) (neg : Bool) : c.rounded mode neg = n := by
  obtain ⟨hr, hx⟩ | ⟨_, hlo, hhi⟩ := h.exact_or
  · rw [Cut.rounded_of_exact hr]
    exact_mod_cast hx.symm
  · have hlo' : c.floor < n := by exact_mod_cast hlo
    have hhi' : n < c.floor + 1 := by exact_mod_cast hhi
    omega

/-- Both nearest modes stay within half a unit. -/
theorem Cut.At.abs_sub_rounded_le {x : K} (h : c.At x) {mode : Mode} (hmode : mode = .rne ∨ mode = .rmm) :
    |x - (c.rounded mode false : K)| ≤ 1 / 2 := by
  by_cases hr : c.rest = .half
  · exact (h.abs_sub_rounded_half hr mode false).le
  · exact (h.abs_sub_rounded_lt hr hmode).le

/-- RUP goes to the least integer that is not below the number. -/
theorem Cut.At.rounded_rup_bounds {x : K} (h : c.At x) :
    x ≤ (c.rounded .rup false : K) ∧ (c.rounded .rup false : K) - 1 < x := by
  obtain ⟨hr, hx⟩ | ⟨hr, hlo, hhi⟩ := h.exact_or
  · rw [Cut.rounded_of_exact hr, hx]
    simp
  · rw [Cut.rounded_rup hr]
    push_cast
    constructor <;> linarith

end

/-- Settles O54: the result is the candidate `k` of the root in the unit of its binade, and each clause compares a
multiple of the unit with the root by their squares. -/
theorem squareRootIsCorrect : Obligations.SquareRootIsCorrect := by
  intro fmt mode a e ha hs hz hlo hhi
  rw [ratOf_of_pos hs] at hlo hhi ⊢
  obtain ⟨c, hcut, hfloor, hfin, hsign, hvalue, hflags⟩ := fsqrt_spec mode ha hs hz hlo hhi
  intro r v u
  have hu : 0 < u := by positivity
  have hucast : ((u : ℚ) : ℝ) = 2 ^ (e - fmt.fracBits) := by
    push_cast [u]
    rfl
  rw [← hucast] at hcut
  have hx := absOf_nonneg a
  have hv : v = c.rounded mode false * u := hvalue
  have hnorm := hfloor.trans (c.floor_le_rounded mode false)
  have hone : (1 : ℚ) ≤ c.rounded mode false := by exact_mod_cast Nat.one_le_two_pow.trans hnorm
  have hnext : v + u = (c.rounded mode false + 1) * u := by rw [hv]; ring
  have hprev : v - u = (c.rounded mode false - 1) * u := by rw [hv]; ring
  have hhalf : v + u / 2 = (c.rounded mode false + 1 / 2) * u ∧ v - u / 2 = (c.rounded mode false - 1 / 2) * u := by
    rw [hv]
    constructor <;> ring
  refine ⟨hfin, hsign, ⟨c.rounded mode false, by rw [hv]; norm_cast⟩, ?_, fun k hk hkx => ?_, ?_, fun hmode => ?_,
    fun hmode => ?_, fun hmode => ?_⟩
  · have hbinade : (2 : ℚ) ^ e = (2 ^ fmt.fracBits : ℕ) * u := by
      push_cast
      rw [← zpow_natCast, ← zpow_add₀ two_ne_zero, add_sub_cancel]
    rw [hv, hbinade]
    gcongr
  · lift k to ℕ using hk
    rw [Int.cast_natCast] at hkx ⊢
    rw [← (mul_self_eq_iff hx hu (Nat.cast_nonneg k)).1 hkx, Rat.cast_natCast] at hcut
    rw [hv, hcut.rounded_of_natCast]
  · have hiff : v * v = absOf a ↔ c.inexact = false := by
      rw [hv, mul_self_eq_iff hx hu (Nat.cast_nonneg _), Rat.cast_natCast]
      exact hcut.rounded_eq_iff mode false
    rw [hflags]
    simp only [hiff]
    cases c.inexact <;> rfl
  · have hk : c.rounded mode false = c.floor := by
      obtain rfl | rfl := hmode <;> simp
    rw [hnext, lt_mul_self_iff hx hu (by positivity), hv, mul_self_le_iff hx hu (by positivity), hk]
    push_cast
    exact ⟨hcut.floor_le, hcut.lt_floor_add_one⟩
  · subst hmode
    obtain ⟨hle, hlt⟩ := hcut.rounded_rup_bounds
    rw [hprev, mul_self_lt_iff hu (by linarith), hv, le_mul_self_iff hu (by positivity)]
    push_cast
    exact ⟨hlt, hle⟩
  · obtain ⟨hlower, hupper⟩ := abs_le.1 (hcut.abs_sub_rounded_le hmode)
    rw [hhalf.left, hhalf.right, mul_self_le_iff hx hu (by linarith), le_mul_self_iff hu (by positivity)]
    push_cast
    constructor <;> linarith

end Sys2Proof.Machine


/-!
The decoder against the encoder: every instruction has one row of the opcode table, the row matches the instruction's
word and reads its fields back, and no word matches two rows (30_encoding.md R91 to R106).
-/

namespace Sys2Proof

/-! ## Fields placed in a word and read back (R91) -/

section
variable {n : ℕ} {lo : ℕ}

theorem place_extractLsb' (w : Word) : place lo (w.extractLsb' lo n) = w &&& place lo (BitVec.allOnes n) := by
  apply BitVec.eq_of_getLsbD_eq
  intro k hk
  by_cases hlo : lo ≤ k
  · by_cases hn : k - lo < n <;> simp [place, hk, hn, hlo, hlo.not_gt]
  · simp [place, not_le.1 hlo]

theorem extractLsb'_place_self (v : BitVec n) (h : lo + n ≤ 32) : (place lo v).extractLsb' lo n = v := by
  apply BitVec.eq_of_getLsbD_eq
  intro k hk
  have h1 : lo + k < 32 := by omega
  simp [place, hk, h1]

/-- A field reads as zero from the places outside it. -/
theorem extractLsb'_place_of_disjoint {m : ℕ} {at' : ℕ} (v : BitVec n) (h : at' + m ≤ lo ∨ lo + n ≤ at') :
    (place lo v).extractLsb' at' m = 0#m := by
  apply BitVec.eq_of_getLsbD_eq
  intro k hk
  obtain h | h := h
  · have hlt : at' + k < lo := by omega
    simp [place, hk, hlt]
  · have hge : v.getLsbD (at' + k - lo) = false := BitVec.getLsbD_of_ge v _ (by omega)
    simp [place, hk, hge]

theorem place_and_allOnes (v : BitVec n) : place lo v &&& place lo (BitVec.allOnes n) = place lo v := by
  apply BitVec.eq_of_getLsbD_eq
  intro k hk
  by_cases hn : k - lo < n
  · simp +contextual [place, hn]
  · have hge : v.getLsbD (k - lo) = false := BitVec.getLsbD_of_ge v _ (not_lt.1 hn)
    simp [place, hge]

/-- A mask that leaves a field's place out leaves nothing of the field. -/
theorem place_and_of_disjoint {mask : Word} (v : BitVec n) (h : place lo (BitVec.allOnes n) &&& mask = 0#32) :
    place lo v &&& mask = 0#32 := by
  rw [← place_and_allOnes, BitVec.and_assoc, h, BitVec.and_zero]

end

/-- The bits of a row that stand outside its mask are zero, so they read as zero in a field. -/
theorem extractLsb'_of_and_eq {mask bits : Word} {lo n : ℕ} (hb : bits &&& mask = bits)
    (hm : mask.extractLsb' lo n = 0#n) : bits.extractLsb' lo n = 0#n := by
  rw [← hb, BitVec.extractLsb'_and, hm, BitVec.and_zero]

theorem immSOf_low (w : Word) : (immSOf w).extractLsb' 0 5 = w.extractLsb' 7 5 :=
  BitVec.extractLsb'_append_eq_right

theorem immSOf_high (w : Word) : (immSOf w).extractLsb' 5 7 = w.extractLsb' 25 7 :=
  BitVec.extractLsb'_append_eq_left

/-! ## The row of an instruction -/

/-- `RowOf r i`: the row `r` is of one of the formats of R92 to R96, with the mask of that format, and `i` is one of
its instructions; the encoder gives every instruction of the row the word of the row's format. -/
inductive RowOf : Row → Instr → Prop
  | load {bits mk rd rs1 imm} (h : ∀ rd rs1 imm, encode (mk rd rs1 imm) = encLoad bits rd rs1 imm) :
      RowOf (rowLoad 0x0000707f#32 bits mk) (mk rd rs1 imm)
  | store {bits mk rs2 rs1 imm} (h : ∀ rs2 rs1 imm, encode (mk rs2 rs1 imm) = encStore bits rs2 rs1 imm) :
      RowOf (rowStore 0x0000707f#32 bits mk) (mk rs2 rs1 imm)
  | unary {bits mk rd rs1} (h : ∀ rd rs1, encode (mk rd rs1) = enc1 bits rd rs1) :
      RowOf (row1 0xfff0707f#32 bits mk) (mk rd rs1)
  | unaryRm {bits mk rd rs1 rm} (h : ∀ rd rs1 rm, encode (mk rd rs1 rm) = enc1m bits rd rs1 rm) :
      RowOf (row1m 0xfff0007f#32 bits mk) (mk rd rs1 rm)
  | binary {bits mk rd rs1 rs2} (h : ∀ rd rs1 rs2, encode (mk rd rs1 rs2) = enc2 bits rd rs1 rs2) :
      RowOf (row2 0xfe00707f#32 bits mk) (mk rd rs1 rs2)
  | binaryRm {bits mk rd rs1 rs2 rm} (h : ∀ rd rs1 rs2 rm, encode (mk rd rs1 rs2 rm) = enc2m bits rd rs1 rs2 rm) :
      RowOf (row2m 0xfe00007f#32 bits mk) (mk rd rs1 rs2 rm)
  | ternaryRm {bits mk rd rs1 rs2 rs3 rm}
      (h : ∀ rd rs1 rs2 rs3 rm, encode (mk rd rs1 rs2 rs3 rm) = enc3m bits rd rs1 rs2 rs3 rm) :
      RowOf (row3m 0x0600007f#32 bits mk) (mk rd rs1 rs2 rs3 rm)
  | csr {bits mk rd csr src} (h : ∀ rd csr src, encode (mk rd csr src) = encCsr bits rd csr src) :
      RowOf (rowCsr 0x0000707f#32 bits mk) (mk rd csr src)

/-- The constructors of `Instr` stand in the order of the rows. -/
theorem exists_rowOf (i : Instr) : ∃ r, rows[i.ctorIdx]? = some r ∧ RowOf r i := by
  cases i with
  | flw | fld | flq | flh => exact ⟨_, rfl, .load fun _ _ _ => rfl⟩
  | fsw | fsd | fsq | fsh => exact ⟨_, rfl, .store fun _ _ _ => rfl⟩
  | fmvXW | fmvWX | fclassS | fmvXD | fmvDX | fclassD | fclassQ | fmvXH | fmvHX | fclassH | fliS | fliD | fliH | fliQ
    | fcvtmodWD | fmvhXD | fmvhXQ => exact ⟨_, rfl, .unary fun _ _ => rfl⟩
  | fsqrtS | fcvtWS | fcvtWuS | fcvtLS | fcvtLuS | fcvtSW | fcvtSWu | fcvtSL | fcvtSLu | fsqrtD | fcvtWD | fcvtWuD
    | fcvtLD | fcvtLuD | fcvtDW | fcvtDWu | fcvtDL | fcvtDLu | fcvtSD | fcvtDS | fsqrtQ | fcvtWQ | fcvtWuQ | fcvtLQ
    | fcvtLuQ | fcvtQW | fcvtQWu | fcvtQL | fcvtQLu | fcvtSQ | fcvtQS | fcvtDQ | fcvtQD | fsqrtH | fcvtWH | fcvtWuH
    | fcvtLH | fcvtLuH | fcvtHW | fcvtHWu | fcvtHL | fcvtHLu | fcvtSH | fcvtHS | fcvtDH | fcvtHD | fcvtQH | fcvtHQ
    | froundS | froundnxS | froundD | froundnxD | froundH | froundnxH | froundQ | froundnxQ | fcvtBf16S | fcvtSBf16 =>
    exact ⟨_, rfl, .unaryRm fun _ _ _ => rfl⟩
  | fminS | fmaxS | fsgnjS | fsgnjnS | fsgnjxS | feqS | fltS | fleS | fminD | fmaxD | fsgnjD | fsgnjnD | fsgnjxD | feqD
    | fltD | fleD | fminQ | fmaxQ | fsgnjQ | fsgnjnQ | fsgnjxQ | feqQ | fltQ | fleQ | fminH | fmaxH | fsgnjH | fsgnjnH
    | fsgnjxH | feqH | fltH | fleH | fminmS | fmaxmS | fminmD | fmaxmD | fminmH | fmaxmH | fminmQ | fmaxmQ | fmvpDX
    | fmvpQX | fleqS | fltqS | fleqD | fltqD | fleqH | fltqH | fleqQ | fltqQ =>
    exact ⟨_, rfl, .binary fun _ _ _ => rfl⟩
  | faddS | fsubS | fmulS | fdivS | faddD | fsubD | fmulD | fdivD | faddQ | fsubQ | fmulQ | fdivQ | faddH | fsubH
    | fmulH | fdivH => exact ⟨_, rfl, .binaryRm fun _ _ _ _ => rfl⟩
  | fmaddS | fmsubS | fnmsubS | fnmaddS | fmaddD | fmsubD | fnmsubD | fnmaddD | fmaddQ | fmsubQ | fnmsubQ | fnmaddQ
    | fmaddH | fmsubH | fnmsubH | fnmaddH => exact ⟨_, rfl, .ternaryRm fun _ _ _ _ _ => rfl⟩
  | csrrw | csrrs | csrrc | csrrwi | csrrsi | csrrci => exact ⟨_, rfl, .csr fun _ _ _ => rfl⟩

theorem ctorIdx_build_rows : rows.map (fun r => (r.build 0#32).ctorIdx) = List.range rows.length := by decide +kernel

/-- Every row is the row of some instruction: of the one it reads from the word of zeros. -/
theorem exists_rowOf_of_mem {r : Row} (hr : r ∈ rows) : ∃ i, RowOf r i := by
  obtain ⟨k, hk, rfl⟩ := List.mem_iff_getElem.1 hr
  have hidx : (rows[k].build 0#32).ctorIdx = k := by
    have := congrArg (·[k]?) ctorIdx_build_rows
    simpa [hk] using this
  obtain ⟨r, hget, hrow⟩ := exists_rowOf (rows[k].build 0#32)
  rw [hidx, List.getElem?_eq_getElem hk, Option.some_inj] at hget
  exact ⟨_, hget.symm ▸ hrow⟩

/-- A row fixes only bits inside its mask. -/
theorem bits_and_mask : ∀ r ∈ rows, r.bits &&& r.mask = r.bits := by decide +kernel

/-! ## A matching word is the encoding of what its row reads (R106) -/

theorem RowOf.encode_build {r : Row} {i : Instr} (h : RowOf r i) {w : Word} (hw : r.matches w = true) :
    encode (r.build w) = w := by
  have hbits : w &&& r.mask = r.bits := beq_iff_eq.1 hw
  cases h with
  | load h =>
    refine (h _ _ _).trans ?_
    obtain rfl : w &&& 0x0000707f#32 = _ := hbits
    simp only [encLoad, rdOf, rs1Of, immIOf, place_extractLsb', ← BitVec.and_or_distrib_left]
    exact BitVec.and_allOnes
  | store h =>
    refine (h _ _ _).trans ?_
    obtain rfl : w &&& 0x0000707f#32 = _ := hbits
    simp only [encStore, immSOf_low, immSOf_high, rs2Of, rs1Of, place_extractLsb',
      ← BitVec.and_or_distrib_left]
    exact BitVec.and_allOnes
  | unary h =>
    refine (h _ _).trans ?_
    obtain rfl : w &&& 0xfff0707f#32 = _ := hbits
    simp only [enc1, rdOf, rs1Of, place_extractLsb', ← BitVec.and_or_distrib_left]
    exact BitVec.and_allOnes
  | unaryRm h =>
    refine (h _ _ _).trans ?_
    obtain rfl : w &&& 0xfff0007f#32 = _ := hbits
    simp only [enc1m, rdOf, rs1Of, rmOf, place_extractLsb', ← BitVec.and_or_distrib_left]
    exact BitVec.and_allOnes
  | binary h =>
    refine (h _ _ _).trans ?_
    obtain rfl : w &&& 0xfe00707f#32 = _ := hbits
    simp only [enc2, rdOf, rs1Of, rs2Of, place_extractLsb', ← BitVec.and_or_distrib_left]
    exact BitVec.and_allOnes
  | binaryRm h =>
    refine (h _ _ _ _).trans ?_
    obtain rfl : w &&& 0xfe00007f#32 = _ := hbits
    simp only [enc2m, rdOf, rs1Of, rs2Of, rmOf, place_extractLsb', ← BitVec.and_or_distrib_left]
    exact BitVec.and_allOnes
  | ternaryRm h =>
    refine (h _ _ _ _ _).trans ?_
    obtain rfl : w &&& 0x0600007f#32 = _ := hbits
    simp only [enc3m, rdOf, rs1Of, rs2Of, rs3Of, rmOf, place_extractLsb', ← BitVec.and_or_distrib_left]
    exact BitVec.and_allOnes
  | csr h =>
    refine (h _ _ _).trans ?_
    obtain rfl : w &&& 0x0000707f#32 = _ := hbits
    simp only [encCsr, rdOf, rs1Of, immIOf, place_extractLsb', ← BitVec.and_or_distrib_left]
    exact BitVec.and_allOnes

/-! ## The row of an instruction matches its word and reads its fields back (R106) -/

theorem RowOf.matches_encode {r : Row} {i : Instr} (h : RowOf r i) (hb : r.bits &&& r.mask = r.bits) :
    r.matches (encode i) = true := by
  refine beq_iff_eq.2 (Eq.trans ?_ hb)
  cases h with
  | load h | store h | unary h | unaryRm h | binary h | binaryRm h | ternaryRm h | csr h =>
    simp (disch := decide) only [h, rowLoad, rowStore, row1, row1m, row2, row2m, row3m, rowCsr, encLoad, encStore,
      enc1, enc1m, enc2, enc2m, enc3m, encCsr, BitVec.and_or_distrib_right, place_and_of_disjoint, BitVec.or_zero]

/-- The two places of a store's offset hold all of it (R102). -/
theorem immS_append (imm : BitVec 12) : imm.extractLsb' 5 7 ++ imm.extractLsb' 0 5 = imm := by
  rw [BitVec.extractLsb'_append_extractLsb'_eq_extractLsb' (start₁ := 0) (start₂ := 5) (len₁ := 5) rfl]
  exact BitVec.extractLsb'_eq_self

theorem RowOf.build_encode {r : Row} {i : Instr} (h : RowOf r i) (hb : r.bits &&& r.mask = r.bits) :
    r.build (encode i) = i := by
  cases h with
  | load h | store h | unary h | unaryRm h | binary h | binaryRm h | ternaryRm h | csr h =>
    simp only [rowLoad, rowStore, row1, row1m, row2, row2m, row3m, rowCsr] at hb
    simp (disch := decide) only [h, rowLoad, rowStore, row1, row1m, row2, row2m, row3m, rowCsr, encLoad, encStore,
      enc1, enc1m, enc2, enc2m, enc3m, encCsr, rdOf, rs1Of, rs2Of, rs3Of, rmOf, immIOf, immSOf, BitVec.extractLsb'_or,
      extractLsb'_of_and_eq hb, extractLsb'_place_self, extractLsb'_place_of_disjoint, BitVec.zero_or, BitVec.or_zero,
      immS_append]

/-! ## One row at most (R106) -/

/-- Two rows fix different values of some bit that both fix. -/
theorem rows_pairwise : rows.Pairwise fun r r' => r.mask &&& r'.mask &&& (r.bits ^^^ r'.bits) ≠ 0#32 := by
  decide +kernel

/-- A word that two rows match agrees with both in the bits that both fix. -/
theorem Row.xor_eq_zero_of_matches {r r' : Row} {w : Word} (h : r.matches w = true) (h' : r'.matches w = true) :
    r.mask &&& r'.mask &&& (r.bits ^^^ r'.bits) = 0#32 := by
  rw [← beq_iff_eq.1 h, ← beq_iff_eq.1 h']
  apply BitVec.eq_of_getLsbD_eq
  intro k hk
  simp only [BitVec.getLsbD_and, BitVec.getLsbD_xor, BitVec.getLsbD_zero]
  cases w.getLsbD k <;> cases r.mask.getLsbD k <;> cases r'.mask.getLsbD k <;> rfl

theorem matches_pairwise (w : Word) : rows.Pairwise fun r r' => ¬(r.matches w = true ∧ r'.matches w = true) :=
  rows_pairwise.imp fun hne ⟨h, h'⟩ => hne (Row.xor_eq_zero_of_matches h h')

theorem length_filter_matches_le_one (w : Word) : (rows.filter fun r => r.matches w).length ≤ 1 := by
  have hpair := List.pairwise_filter.2 ((matches_pairwise w).imp fun h hr hr' => h ⟨hr, hr'⟩)
  generalize rows.filter (fun r => r.matches w) = l at hpair
  match l with
  | [] | [_] => simp
  | r :: r' :: l => exact (List.rel_of_pairwise_cons hpair (List.mem_cons_self ..)).elim

/-- The row that matches a word decides what the word decodes to. -/
theorem decode_of_matches {r : Row} (hr : r ∈ rows) {w : Word} (hw : r.matches w = true) :
    decode w = .instr (r.build w) := by
  have hle := length_filter_matches_le_one w
  have hmem : r ∈ rows.filter fun r => r.matches w := List.mem_filter.2 ⟨hr, hw⟩
  have hfilter : rows.filter (fun r => r.matches w) = [r] := by
    generalize rows.filter (fun r => r.matches w) = l at hle hmem
    match l with
    | [] => simp at hmem
    | [r'] => rw [List.mem_singleton.1 hmem]
    | _ :: _ :: l => simp at hle
  have hfind : rows.find? (fun r => r.matches w) = some r := by
    rw [← List.head?_filter, hfilter]
    rfl
  rw [decode, hfind]

theorem exists_matches_of_decode {w : Word} {i : Instr} (h : decode w = .instr i) :
    ∃ r ∈ rows, r.matches w = true ∧ r.build w = i := by
  unfold decode at h
  split at h
  next r hfind => exact ⟨r, List.mem_of_find?_eq_some hfind, List.find?_some (p := fun r : Row => r.matches w) hfind, Decoded.instr.inj h⟩
  next => split at h <;> cases h

end Sys2Proof

namespace Sys2Proof.Machine

/-- Settles O1: the row of an instruction matches its word, is the only one that does, and reads its fields back. -/
theorem decodeEncodeEveryInstruction : Obligations.DecodeEncodeEveryInstruction := by
  intro i
  obtain ⟨r, hget, hrow⟩ := exists_rowOf i
  have hr : r ∈ rows := List.mem_of_getElem? hget
  have hb := bits_and_mask r hr
  rw [decode_of_matches hr (hrow.matches_encode hb), hrow.build_encode hb]

/-- Settles O2: two rows differ in a bit that both fix, and a matching word is its row's bits and the fields. -/
theorem wordsDecodeUniquely : Obligations.WordsDecodeUniquely := by
  refine fun w => ⟨length_filter_matches_le_one w, fun i hi => ?_⟩
  obtain ⟨r, hr, hw, rfl⟩ := exists_matches_of_decode hi
  obtain ⟨j, hrow⟩ := exists_rowOf_of_mem hr
  exact hrow.encode_build hw

/-- Settles O3: each word is the encoding of its instruction. -/
theorem decodeOfWrittenOutWords : Obligations.DecodeOfWrittenOutWords := by
  have hword {w : Word} {i : Instr} (h : encode i = w) : decode w = .instr i := h ▸ decodeEncodeEveryInstruction i
  refine ⟨?_, ?_, ?_, ?_, ?_, ?_, ?_⟩ <;> exact hword (by decide)

/-- Settles O6: without a row the major opcode alone decides between the exception and the refusal. -/
theorem unmatchedWordOutcome : Obligations.UnmatchedWordOutcome := by
  intro s hwf hpc hend hmem hrows
  have hstep := step_eq_perform hwf hpc hend hmem
  have hnone : rows.find? (fun r => r.matches (fetchWord s)) = none :=
    List.find?_eq_none.2 fun r hr => by simpa [Row.matches] using hrows r hr
  have hmajor : isFpMajor (fetchWord s) = true ↔ (fetchWord s).extractLsb' 0 7 ∈
      [0b0000111#7, 0b0100111#7, 0b1000011#7, 0b1000111#7, 0b1001011#7, 0b1001111#7, 0b1010011#7] := by
    rw [isFpMajor, List.contains_iff_mem]
  rw [← hmajor, hstep, decode, hnone]
  refine ⟨fun h => ?_, fun h => ?_⟩
  · simp only [h, if_true]
    rfl
  · simp only [h]
    rfl

end Sys2Proof.Machine


/-!
The meanings by destination: what every instruction computes from its operand reads, which flags that may raise, and
how the meaning depends on the register that `rd` names (00_scope.md R8, 40_fp_common.md R147). Frames, flags, stops and
noninterference are then a case split over six kinds of meaning.
-/

namespace Sys2Proof.Machine

/-! ## The legal combinations of flags (10_state.md R33, 40_fp_common.md R147) -/

/-- No flag, NV, DZ, NX, OF with NX, UF with NX. -/
def LegalFlags (fl : FlagSet) : Prop := fl ∈ [0b00000#5, 0b10000#5, 0b01000#5, 0b00001#5, 0b00101#5, 0b00011#5]

theorem legalFlags_noFlags : LegalFlags noFlags := by simp [LegalFlags, noFlags]

theorem legalFlags_NV : LegalFlags NV := by simp [LegalFlags, NV]

theorem legalFlags_DZ : LegalFlags DZ := by simp [LegalFlags, DZ]

theorem legalFlags_overflowFlags : LegalFlags overflowFlags := by simp [LegalFlags, overflowFlags, OF, NX]

theorem legalFlags_flagIf_NV (c : Bool) : LegalFlags (flagIf c NV) := by
  cases c <;> [exact legalFlags_noFlags; exact legalFlags_NV]

theorem legalFlags_flagIf_NX (c : Bool) : LegalFlags (flagIf c NX) := by
  cases c <;> simp [LegalFlags, flagIf, noFlags, NX]

theorem legalFlags_roundingFlags (inexact tiny : Bool) : LegalFlags (roundingFlags inexact tiny) := by
  cases inexact <;> cases tiny <;> simp [LegalFlags, roundingFlags, flagIf, noFlags, NX, UF]

/-- A branch raises a legal combination when both of its answers do. -/
theorem legalFlags_ite {α : Type} {p : Prop} [Decidable p] {r r' : α × FlagSet} (h : LegalFlags r.2)
    (h' : LegalFlags r'.2) : LegalFlags (if p then r else r').2 := by
  split
  · exact h
  · exact h'

section
variable (fmt : Fmt) (mode : Mode) (a b c : Bits fmt)

theorem legalFlags_roundReal (neg : Bool) (x : Magnitude) : LegalFlags (roundReal fmt mode neg x).2 :=
  legalFlags_ite legalFlags_overflowFlags (legalFlags_roundingFlags _ _)

theorem legalFlags_roundDyad (x : Dyad) : LegalFlags (roundDyad fmt mode x).2 := legalFlags_roundReal fmt mode _ _

theorem legalFlags_fadd : LegalFlags (fadd fmt mode a b).2 :=
  legalFlags_ite (legalFlags_flagIf_NV _) <| legalFlags_ite (legalFlags_ite legalFlags_noFlags legalFlags_NV) <|
    legalFlags_ite legalFlags_noFlags <| legalFlags_ite legalFlags_noFlags <|
      legalFlags_ite legalFlags_noFlags <| legalFlags_roundDyad fmt mode _

theorem legalFlags_fsub : LegalFlags (fsub fmt mode a b).2 :=
  legalFlags_ite (legalFlags_flagIf_NV _) (legalFlags_fadd fmt mode a (negate b))

theorem legalFlags_fmul : LegalFlags (fmul fmt mode a b).2 :=
  legalFlags_ite (legalFlags_flagIf_NV _) <| legalFlags_ite legalFlags_NV <| legalFlags_ite legalFlags_noFlags <|
    legalFlags_ite legalFlags_noFlags <| legalFlags_roundDyad fmt mode _

theorem legalFlags_fdiv : LegalFlags (fdiv fmt mode a b).2 :=
  legalFlags_ite (legalFlags_flagIf_NV _) <| legalFlags_ite (legalFlags_ite legalFlags_NV legalFlags_noFlags) <|
    legalFlags_ite legalFlags_noFlags <| legalFlags_ite (legalFlags_ite legalFlags_NV legalFlags_DZ) <|
      legalFlags_ite legalFlags_noFlags <| legalFlags_roundReal fmt mode _ _

theorem legalFlags_fsqrt : LegalFlags (fsqrt fmt mode a).2 :=
  legalFlags_ite (legalFlags_flagIf_NV _) <| legalFlags_ite legalFlags_noFlags <| legalFlags_ite legalFlags_NV <|
    legalFlags_ite legalFlags_noFlags <| legalFlags_roundReal fmt mode _ _

theorem legalFlags_ffma (p q : Bool) : LegalFlags (ffma fmt p q mode a b c).2 :=
  legalFlags_ite (legalFlags_flagIf_NV _) <| legalFlags_ite legalFlags_NV <|
    legalFlags_ite (legalFlags_ite legalFlags_NV legalFlags_noFlags) <| legalFlags_ite legalFlags_noFlags <|
      legalFlags_ite legalFlags_noFlags <| legalFlags_roundDyad fmt mode _

theorem legalFlags_fminmax (m : Bool) : LegalFlags (fminmax fmt m a b).2 := by
  rw [fminmax_flags]
  exact legalFlags_flagIf_NV _

theorem legalFlags_fminmaxm (m : Bool) : LegalFlags (fminmaxm fmt m a b).2 := by
  rw [fminmaxm_flags]
  exact legalFlags_flagIf_NV _

theorem legalFlags_fround (exact : Bool) : LegalFlags (fround fmt exact mode a).2 :=
  legalFlags_ite (legalFlags_flagIf_NV _) <| legalFlags_ite legalFlags_noFlags (legalFlags_flagIf_NX _)

theorem legalFlags_fcmp (op : CmpOp) : LegalFlags (fcmp fmt op a b).2 := by
  refine legalFlags_ite ?_ legalFlags_noFlags
  dsimp only
  split
  · exact legalFlags_NV
  · exact legalFlags_flagIf_NV _

theorem legalFlags_fcvtInt (t : IntFmt) : LegalFlags (fcvtInt fmt t mode a).2 :=
  legalFlags_ite legalFlags_NV <| legalFlags_ite legalFlags_NV <| legalFlags_ite legalFlags_NV <|
    legalFlags_ite legalFlags_NV (legalFlags_flagIf_NX _)

theorem legalFlags_fcvtFp (n : ℤ) : LegalFlags (fcvtFp fmt mode n).2 :=
  legalFlags_ite legalFlags_noFlags (legalFlags_roundDyad fmt mode _)

theorem legalFlags_fcvtFf (src : Fmt) (d : Bits src) : LegalFlags (fcvtFf fmt src mode d).2 :=
  legalFlags_ite (legalFlags_flagIf_NV _) <| legalFlags_ite legalFlags_noFlags <| legalFlags_ite legalFlags_noFlags <|
    legalFlags_roundDyad fmt mode _

theorem legalFlags_fcvtmod (d : Bits .d) : LegalFlags (fcvtmod d).2 :=
  legalFlags_ite (legalFlags_fcvtInt .d .rtz d .w) (legalFlags_fcvtInt .d .rtz d .w)

end

/-- The flags an instruction may raise: a legal combination, and none if it is of the list of R33. -/
def FlagRule (i : Instr) (fl : FlagSet) : Prop := LegalFlags fl ∧ (neverSetsFlags i = true → fl = noFlags)

theorem flagRule_noFlags (i : Instr) : FlagRule i noFlags := ⟨legalFlags_noFlags, fun _ => rfl⟩

theorem flagRule_of_legalFlags {i : Instr} {fl : FlagSet} (hi : neverSetsFlags i = false) (h : LegalFlags fl) :
    FlagRule i fl := ⟨h, fun h' => by simp [hi] at h'⟩

/-! ## The six kinds of meaning -/

/-- Two states that show the same to the operand reads of 40_fp_common.md R139, R143 and R162. -/
structure SameOperands (s t : State) : Prop where
  mode : ∀ rm, s.resolveMode rm = t.resolveMode rm
  x : ∀ r, s.readX r = t.readX r
  fp : ∀ fmt r, s.readFp fmt r = t.readFp fmt r

theorem SameOperands.int {s t : State} (h : SameOperands s t) (y : IntFmt) (r : Reg) : s.readInt y r = t.readInt y r := by
  rw [State.readInt, State.readInt, h.x]

/-- The checks of R106 in front of a completion with a computed result; without a result, that is without a rounding
mode, the instruction is illegal. -/
def computed {α : Type} (i : Instr) (r : Option α) (k : α → Outcome) (s : State) : Outcome :=
  checked i s (match r with
    | some v => k v
    | none => raiseIllegal i s)

theorem rounding_eq_computed {α : Type} {i : Instr} {rm : BitVec 3} {s : State} {e : Mode → Outcome} {f : Mode → α}
    {k : α → Outcome} (h : ∀ m, e m = k (f m)) : rounding i rm s e = computed i ((s.resolveMode rm).map f) k s := by
  unfold rounding computed
  cases s.resolveMode rm with
  | none => rfl
  | some m => simp only [h, Option.map_some]

/-- Another `rd` asks nothing of the configuration but that it be even where it names a double; x0 is even. -/
def RdOnlyInPairs (i : Instr) : Prop :=
  ∀ r : Reg, ∃ ext xlen ps ps', conditions (withRd r i) = ⟨ext, xlen, ps⟩ ∧ conditions (withRd 0 i) = ⟨ext, xlen, ps'⟩ ∧
    ∀ q ∈ ps', q = 0 ∨ q ∈ ps

/-- What an instruction means, by the kind of its destination: a floating-point result and an integer result computed
from the operands, an f register written with raw bits, a load, a store, a CSR access. Each says how the meaning depends
on `rd`, which flags it may raise, and which reads it makes; under Zfinx an instruction that reads f registers directly
has no row (30_encoding.md R113). -/
inductive Meaning (i : Instr) : Prop
  | fpResult {fmt rd} (res : State → Option (Result fmt)) (hd : dest i = .fp fmt rd) (hself : withRd rd i = i)
      (hpairs : RdOnlyInPairs i)
      (hexec : ∀ r s, exec (withRd r i) s = computed (withRd r i) (res s) (fun v => completeFp fmt r v s) s)
      (hflags : ∀ s v, res s = some v → FlagRule i v.2) (hreads : ∀ s t, SameOperands s t → res s = res t)
  | intResult {rd} (res : State → Option (XWord × FlagSet)) (hd : dest i = .x rd) (hself : withRd rd i = i)
      (hcond : ∀ r, conditions (withRd r i) = conditions i)
      (hexec : ∀ r s, exec (withRd r i) s = computed (withRd r i) (res s) (fun v => completeX r v.1 v.2 s) s)
      (hflags : ∀ s v, res s = some v → FlagRule i v.2)
      (hreads : ∀ s t, SameOperands s t → (needsFRegisters i = true → ∀ r, s.readF r = t.readF r) → res s = res t)
  | fWrite {rd} (val : State → FWord) (hd : dest i = .f rd) (hneeds : needsFRegisters i = true)
      (hexec : ∀ s, exec i s = checked i s (complete (s.writeF rd (val s))))
      (hreads : ∀ s t, SameOperands s t → s.flen = t.flen → val s = val t)
  | load {fmt rd rs1 imm} (hd : dest i = .f rd) (hneeds : needsFRegisters i = true)
      (hmem : memAccess i = some (fmt, rs1, imm)) (hexec : ∀ s, exec i s = load i fmt rd rs1 imm s)
  | store {fmt rs2 rs1 imm} (hd : dest i = .mem fmt rs1 imm) (hneeds : needsFRegisters i = true)
      (hmem : memAccess i = some (fmt, rs1, imm)) (hexec : ∀ s, exec i s = store i fmt rs2 rs1 imm s)
  | csr {rd csr write} (new : State → XWord → XWord) (hd : dest i = .csr rd csr) (hself : withRd rd i = i)
      (hcond : ∀ r, conditions (withRd r i) = conditions i) (hflags : neverSetsFlags i = false)
      (hexec : ∀ r s, exec (withRd r i) s = csrAccess (withRd r i) r csr write (new s) s)
      (hreads : ∀ s t, SameOperands s t → new s = new t)

/-! ## The shapes as kinds of meaning -/

section
variable {i : Instr} {fmt : Fmt} {rd rs1 rs2 rs3 : Reg} {rm : BitVec 3}

theorem Meaning.rounded1 {op : Mode → Bits fmt → Result fmt} (hd : dest i = .fp fmt rd) (hself : withRd rd i = i)
    (hpairs : RdOnlyInPairs i) (hexec : ∀ r s, exec (withRd r i) s = rounded1 (withRd r i) fmt op r rs1 rm s)
    (hi : neverSetsFlags i = false) (hop : ∀ m a, LegalFlags (op m a).2) : Meaning i := by
  refine .fpResult (fun s => (s.resolveMode rm).map fun m => op m (s.readFp fmt rs1)) hd hself hpairs
    (fun r s => (hexec r s).trans (rounding_eq_computed fun _ => rfl)) (fun s v hv => ?_) (fun s t h => ?_)
  · obtain ⟨m, _, rfl⟩ := Option.map_eq_some_iff.1 hv
    exact flagRule_of_legalFlags hi (hop _ _)
  · simp only [h.mode, h.fp]

theorem Meaning.rounded2 {op : Mode → Bits fmt → Bits fmt → Result fmt} (hd : dest i = .fp fmt rd)
    (hself : withRd rd i = i) (hpairs : RdOnlyInPairs i)
    (hexec : ∀ r s, exec (withRd r i) s = rounded2 (withRd r i) fmt op r rs1 rs2 rm s)
    (hi : neverSetsFlags i = false) (hop : ∀ m a b, LegalFlags (op m a b).2) : Meaning i := by
  refine .fpResult (fun s => (s.resolveMode rm).map fun m => op m (s.readFp fmt rs1) (s.readFp fmt rs2)) hd hself hpairs
    (fun r s => (hexec r s).trans (rounding_eq_computed fun _ => rfl)) (fun s v hv => ?_) (fun s t h => ?_)
  · obtain ⟨m, _, rfl⟩ := Option.map_eq_some_iff.1 hv
    exact flagRule_of_legalFlags hi (hop _ _ _)
  · simp only [h.mode, h.fp]

theorem Meaning.fused {p q : Bool} (hd : dest i = .fp fmt rd) (hself : withRd rd i = i) (hpairs : RdOnlyInPairs i)
    (hexec : ∀ r s, exec (withRd r i) s = fused (withRd r i) fmt p q r rs1 rs2 rs3 rm s)
    (hi : neverSetsFlags i = false) : Meaning i := by
  refine .fpResult (fun s => (s.resolveMode rm).map fun m => ffma fmt p q m (s.readFp fmt rs1) (s.readFp fmt rs2)
    (s.readFp fmt rs3)) hd hself hpairs (fun r s => (hexec r s).trans (rounding_eq_computed fun _ => rfl)) (fun s v hv => ?_)
    (fun s t h => ?_)
  · obtain ⟨m, _, rfl⟩ := Option.map_eq_some_iff.1 hv
    exact flagRule_of_legalFlags hi (legalFlags_ffma ..)
  · simp only [h.mode, h.fp]

theorem Meaning.unrounded2 {op : Bits fmt → Bits fmt → Result fmt} (hd : dest i = .fp fmt rd)
    (hself : withRd rd i = i) (hpairs : RdOnlyInPairs i)
    (hexec : ∀ r s, exec (withRd r i) s = unrounded2 (withRd r i) fmt op r rs1 rs2 s)
    (hop : ∀ a b, FlagRule i (op a b).2) : Meaning i := by
  refine .fpResult (fun s => some (op (s.readFp fmt rs1) (s.readFp fmt rs2))) hd hself hpairs hexec (fun s v hv => ?_)
    (fun s t h => ?_)
  · obtain rfl := Option.some.inj hv
    exact hop _ _
  · simp only [h.fp]

theorem Meaning.intToFp {y : IntFmt} (hd : dest i = .fp fmt rd) (hself : withRd rd i = i) (hpairs : RdOnlyInPairs i)
    (hexec : ∀ r s, exec (withRd r i) s = intToFp (withRd r i) fmt y r rs1 rm s) (hi : neverSetsFlags i = false) :
    Meaning i := by
  refine .fpResult (fun s => (s.resolveMode rm).map fun m => fcvtFp fmt m (s.readInt y rs1)) hd hself hpairs
    (fun r s => (hexec r s).trans (rounding_eq_computed fun _ => rfl)) (fun s v hv => ?_) (fun s t h => ?_)
  · obtain ⟨m, _, rfl⟩ := Option.map_eq_some_iff.1 hv
    exact flagRule_of_legalFlags hi (legalFlags_fcvtFp ..)
  · simp only [h.mode, h.int]

theorem Meaning.fpToFp {src : Fmt} (hd : dest i = .fp fmt rd) (hself : withRd rd i = i) (hpairs : RdOnlyInPairs i)
    (hexec : ∀ r s, exec (withRd r i) s = fpToFp (withRd r i) fmt src r rs1 rm s) (hi : neverSetsFlags i = false) :
    Meaning i := by
  refine .fpResult (fun s => (s.resolveMode rm).map fun m => fcvtFf fmt src m (s.readFp src rs1)) hd hself hpairs
    (fun r s => (hexec r s).trans (rounding_eq_computed fun _ => rfl)) (fun s v hv => ?_) (fun s t h => ?_)
  · obtain ⟨m, _, rfl⟩ := Option.map_eq_some_iff.1 hv
    exact flagRule_of_legalFlags hi (legalFlags_fcvtFf ..)
  · simp only [h.mode, h.fp]

theorem Meaning.compareFp {op : CmpOp} (hd : dest i = .x rd) (hself : withRd rd i = i)
    (hcond : ∀ r, conditions (withRd r i) = conditions i)
    (hexec : ∀ r s, exec (withRd r i) s = compareFp (withRd r i) fmt op r rs1 rs2 s) (hi : neverSetsFlags i = false) :
    Meaning i := by
  refine .intResult (fun s => some ((BitVec.ofBool (fcmp fmt op (s.readFp fmt rs1) (s.readFp fmt rs2)).1).setWidth 64,
    (fcmp fmt op (s.readFp fmt rs1) (s.readFp fmt rs2)).2)) hd hself hcond hexec (fun s v hv => ?_) (fun s t h _ => ?_)
  · obtain rfl := Option.some.inj hv
    exact flagRule_of_legalFlags hi (legalFlags_fcmp ..)
  · simp only [h.fp]

theorem Meaning.classify (hd : dest i = .x rd) (hself : withRd rd i = i)
    (hcond : ∀ r, conditions (withRd r i) = conditions i)
    (hexec : ∀ r s, exec (withRd r i) s = classify (withRd r i) fmt r rs1 s) : Meaning i := by
  refine .intResult (fun s => some ((fclass fmt (s.readFp fmt rs1)).setWidth 64, noFlags)) hd hself hcond hexec
    (fun s v hv => ?_) (fun s t h _ => ?_)
  · obtain rfl := Option.some.inj hv
    exact flagRule_noFlags i
  · simp only [h.fp]

theorem Meaning.fpToInt {y : IntFmt} (hd : dest i = .x rd) (hself : withRd rd i = i)
    (hcond : ∀ r, conditions (withRd r i) = conditions i)
    (hexec : ∀ r s, exec (withRd r i) s = fpToInt (withRd r i) fmt y r rs1 rm s) (hi : neverSetsFlags i = false) :
    Meaning i := by
  refine .intResult (fun s => (s.resolveMode rm).map fun m =>
    ((BitVec.ofInt y.width (fcvtInt fmt y m (s.readFp fmt rs1)).1).signExtend 64, (fcvtInt fmt y m (s.readFp fmt rs1)).2))
    hd hself hcond (fun r s => (hexec r s).trans (rounding_eq_computed fun _ => rfl))
    (fun s v hv => ?_) (fun s t h _ => ?_)
  · obtain ⟨m, _, rfl⟩ := Option.map_eq_some_iff.1 hv
    exact flagRule_of_legalFlags hi (legalFlags_fcvtInt ..)
  · simp only [h.mode, h.fp]

theorem Meaning.modularConvert (hd : dest i = .x rd) (hself : withRd rd i = i)
    (hcond : ∀ r, conditions (withRd r i) = conditions i)
    (hexec : ∀ r s, exec (withRd r i) s = modularConvert (withRd r i) r rs1 s) (hi : neverSetsFlags i = false) :
    Meaning i := by
  refine .intResult (fun s => some ((fcvtmod (s.readFp .d rs1)).1.signExtend 64, (fcvtmod (s.readFp .d rs1)).2)) hd hself
    hcond hexec (fun s v hv => ?_) (fun s t h _ => ?_)
  · obtain rfl := Option.some.inj hv
    exact flagRule_of_legalFlags hi (legalFlags_fcvtmod _)
  · simp only [h.fp]

theorem State.accrue_noFlags (s : State) : s.accrue noFlags = s := by
  simp [State.accrue, noFlags]

/-- A move of raw bits of an f register into an x register. -/
theorem Meaning.rawMove {val : FWord → XWord} (hd : dest i = .x rd) (hself : withRd rd i = i)
    (hcond : ∀ r, conditions (withRd r i) = conditions i) (hneeds : needsFRegisters i = true)
    (hexec : ∀ r s, exec (withRd r i) s = checked (withRd r i) s (complete (s.writeX r (val (s.readF rs1))))) :
    Meaning i := by
  refine .intResult (fun s => some (val (s.readF rs1), noFlags)) hd hself hcond (fun r s => ?_) (fun s v hv => ?_)
    (fun s t h hf => ?_)
  · rw [hexec]
    simp only [computed, completeX, State.accrue_noFlags]
  · obtain rfl := Option.some.inj hv
    exact flagRule_noFlags i
  · simp only [hf hneeds]

end

/-- Every row of the opcode table has a meaning of one of the six kinds. -/
theorem exec_meaning (i : Instr) : Meaning i := by
  have hpairs {i : Instr} {ext xlen} {ps : Reg → List Reg} (h : ∀ r, conditions (withRd r i) = ⟨ext, xlen, ps r⟩)
      (hps : ∀ r, ∀ q ∈ ps 0, q = 0 ∨ q ∈ ps r) : RdOnlyInPairs i := fun r => ⟨_, _, _, _, h r, h 0, hps r⟩
  cases i with
  | flw | fld | flq | flh => exact .load rfl rfl rfl fun _ => rfl
  | fsw | fsd | fsq | fsh => exact .store rfl rfl rfl fun _ => rfl
  | fmvXW | fmvXD | fmvXH =>
    exact .rawMove (val := fun v => (v.setWidth _).signExtend 64) rfl rfl (fun _ => rfl) rfl fun _ _ => rfl
  | fmvhXD | fmvhXQ =>
    exact .rawMove (val := fun v => (v.extractLsb' _ _).signExtend 64) rfl rfl (fun _ => rfl) rfl fun _ _ => rfl
  | fmvWX _ rs1 | fmvDX _ rs1 | fmvHX _ rs1 =>
    exact .fWrite (fun s => box s.flen _ ((s.readX rs1).setWidth _)) rfl rfl (fun _ => rfl)
      fun s t h hfl => by rw [h.x, hfl]
  | fmvpDX _ rs1 rs2 | fmvpQX _ rs1 rs2 =>
    exact .fWrite (fun s => box s.flen _ (((s.readX rs2).setWidth _ ++ (s.readX rs1).setWidth _).setWidth _)) rfl rfl
      (fun _ => rfl) fun s t h hfl => by rw [h.x, h.x, hfl]
  | fliS _ k | fliD _ k | fliH _ k | fliQ _ k =>
    exact .fWrite (fun s => box s.flen _ (fli _ k)) rfl rfl (fun _ => rfl) fun s t _ hfl => by rw [hfl]
  | feqS | fltS | fleS | feqD | fltD | fleD | feqQ | fltQ | fleQ | feqH | fltH | fleH | fleqS
    | fltqS | fleqD | fltqD | fleqH | fltqH | fleqQ | fltqQ =>
    exact .compareFp rfl rfl (fun _ => rfl) (fun _ _ => rfl) rfl
  | fclassS | fclassD | fclassQ | fclassH => exact .classify rfl rfl (fun _ => rfl) fun _ _ => rfl
  | fcvtWS | fcvtWuS | fcvtLS | fcvtLuS | fcvtWD | fcvtWuD | fcvtLD | fcvtLuD | fcvtWQ
    | fcvtWuQ | fcvtLQ | fcvtLuQ | fcvtWH | fcvtWuH | fcvtLH | fcvtLuH =>
    exact .fpToInt rfl rfl (fun _ => rfl) (fun _ _ => rfl) rfl
  | fcvtmodWD => exact .modularConvert rfl rfl (fun _ => rfl) (fun _ _ => rfl) rfl
  | csrrw _ _ rs1 => exact .csr (fun s _ => s.readX rs1) rfl rfl (fun _ => rfl) rfl (fun _ _ => rfl) fun s t h => by rw [h.x]
  | csrrs _ _ rs1 =>
    exact .csr (fun s t => t ||| s.readX rs1) rfl rfl (fun _ => rfl) rfl (fun _ _ => rfl) fun s t h => by rw [h.x]
  | csrrc _ _ rs1 =>
    exact .csr (fun s t => t &&& ~~~s.readX rs1) rfl rfl (fun _ => rfl) rfl (fun _ _ => rfl) fun s t h => by rw [h.x]
  | csrrwi _ _ u => exact .csr (fun _ _ => u.setWidth 64) rfl rfl (fun _ => rfl) rfl (fun _ _ => rfl) fun _ _ _ => rfl
  | csrrsi _ _ u =>
    exact .csr (fun _ t => t ||| u.setWidth 64) rfl rfl (fun _ => rfl) rfl (fun _ _ => rfl) fun _ _ _ => rfl
  | csrrci _ _ u =>
    exact .csr (fun _ t => t &&& ~~~u.setWidth 64) rfl rfl (fun _ => rfl) rfl (fun _ _ => rfl) fun _ _ _ => rfl
  | faddS | faddD | faddQ | faddH =>
    exact .rounded2 rfl rfl (hpairs (fun _ => rfl) (by simp)) (fun _ _ => rfl) rfl (legalFlags_fadd _)
  | fsubS | fsubD | fsubQ | fsubH =>
    exact .rounded2 rfl rfl (hpairs (fun _ => rfl) (by simp)) (fun _ _ => rfl) rfl (legalFlags_fsub _)
  | fmulS | fmulD | fmulQ | fmulH =>
    exact .rounded2 rfl rfl (hpairs (fun _ => rfl) (by simp)) (fun _ _ => rfl) rfl (legalFlags_fmul _)
  | fdivS | fdivD | fdivQ | fdivH =>
    exact .rounded2 rfl rfl (hpairs (fun _ => rfl) (by simp)) (fun _ _ => rfl) rfl (legalFlags_fdiv _)
  | fsqrtS | fsqrtD | fsqrtQ | fsqrtH =>
    exact .rounded1 rfl rfl (hpairs (fun _ => rfl) (by simp)) (fun _ _ => rfl) rfl (legalFlags_fsqrt _)
  | froundS | froundnxS | froundD | froundnxD | froundH | froundnxH | froundQ | froundnxQ =>
    exact .rounded1 rfl rfl (hpairs (fun _ => rfl) (by simp)) (fun _ _ => rfl) rfl fun m a => legalFlags_fround _ m a _
  | fmaddS | fmsubS | fnmsubS | fnmaddS | fmaddD | fmsubD | fnmsubD | fnmaddD | fmaddQ | fmsubQ
    | fnmsubQ | fnmaddQ | fmaddH | fmsubH | fnmsubH | fnmaddH =>
    exact .fused rfl rfl (hpairs (fun _ => rfl) (by simp)) (fun _ _ => rfl) rfl
  | fsgnjS | fsgnjnS | fsgnjxS | fsgnjD | fsgnjnD | fsgnjxD | fsgnjQ | fsgnjnQ | fsgnjxQ | fsgnjH | fsgnjnH | fsgnjxH =>
    exact .unrounded2 rfl rfl (hpairs (fun _ => rfl) (by simp)) (fun _ _ => rfl) fun _ _ => flagRule_noFlags _
  | fminS | fmaxS | fminD | fmaxD | fminQ | fmaxQ | fminH | fmaxH =>
    exact .unrounded2 rfl rfl (hpairs (fun _ => rfl) (by simp)) (fun _ _ => rfl) fun a b =>
      flagRule_of_legalFlags rfl (legalFlags_fminmax _ a b _)
  | fminmS | fmaxmS | fminmD | fmaxmD | fminmH | fmaxmH | fminmQ | fmaxmQ =>
    exact .unrounded2 rfl rfl (hpairs (fun _ => rfl) (by simp)) (fun _ _ => rfl) fun a b =>
      flagRule_of_legalFlags rfl (legalFlags_fminmaxm _ a b _)
  | fcvtSW | fcvtSWu | fcvtSL | fcvtSLu | fcvtDW | fcvtDWu | fcvtDL | fcvtDLu | fcvtQW
    | fcvtQWu | fcvtQL | fcvtQLu | fcvtHW | fcvtHWu | fcvtHL | fcvtHLu =>
    exact .intToFp rfl rfl (hpairs (fun _ => rfl) (by simp)) (fun _ _ => rfl) rfl
  | fcvtSD | fcvtDS | fcvtSQ | fcvtQS | fcvtDQ | fcvtQD | fcvtSH | fcvtHS | fcvtDH | fcvtHD
    | fcvtQH | fcvtHQ | fcvtBf16S | fcvtSBf16 =>
    exact .fpToFp rfl rfl (hpairs (fun _ => rfl) (by simp)) (fun _ _ => rfl) rfl

end Sys2Proof.Machine


/-!
What an instruction that completes has done to the state: one of five writes, the flags, and the advance of the pc
(00_scope.md R8). The frames, the flags and the invariant follow.
-/

namespace Sys2Proof.Machine

/-! ## Registers not written -/

theorem toNat_ne {q r : Reg} (h : q ≠ r) : r.toNat ≠ q.toNat := fun e => h (BitVec.eq_of_toNat_eq e.symm)

theorem State.writeX_x_of_ne (s : State) {q r : Reg} (v : XWord) (h : q ≠ r) :
    (s.writeX r v).x[q.toNat] = s.x[q.toNat] := by
  by_cases hr : r = 0
  · rw [hr]
    rfl
  · simp only [State.writeX_x s v hr]
    exact Vector.getElem_set_ne _ _ (toNat_ne h)

theorem State.writeF_f_of_ne (s : State) {q r : Reg} (v : FWord) (h : q ≠ r) :
    (s.writeF r v).f[q.toNat] = s.f[q.toNat] := by
  simp only [State.writeF]
  exact Vector.getElem_set_ne _ _ (toNat_ne h)

theorem State.writePair_x_of_ne (s : State) {q r : Reg} (v : BitVec 64) (h : q ≠ r) (h' : q ≠ r + 1) :
    (s.writePair r v).x[q.toNat] = s.x[q.toNat] := by
  unfold State.writePair
  split
  · rfl
  · rw [State.writeX_x_of_ne _ _ h', State.writeX_x_of_ne _ _ h]

/-- With f registers a result leaves every other f register alone. -/
theorem State.writeFp_f_of_ne (s : State) (fmt : Fmt) {q r : Reg} (v : Bits fmt) (hx : s.inX = false) (h : q ≠ r) :
    (s.writeFp fmt r v).f[q.toNat] = s.f[q.toNat] := by
  simp only [State.writeFp, hx, Bool.false_eq_true, if_false]
  exact s.writeF_f_of_ne _ h

/-- With x registers a result leaves every x register alone but its own and, for a format wider than XLEN, the next. -/
theorem State.writeFp_x_of_ne (s : State) (fmt : Fmt) {q r : Reg} (v : Bits fmt) (hx : s.inX = true) (h : q ≠ r)
    (h' : fmt.width ≤ s.xlen ∨ q ≠ r + 1) : (s.writeFp fmt r v).x[q.toNat] = s.x[q.toNat] := by
  simp only [State.writeFp, hx, if_true]
  split
  next => exact s.writeX_x_of_ne _ h
  next hw => exact s.writePair_x_of_ne _ h (h'.resolve_left hw)

/-- With x registers a result for x0 is dropped (10_state.md R21, 40_fp_common.md R142). -/
theorem State.writeFp_zero (s : State) (fmt : Fmt) (v : Bits fmt) (hx : s.inX = true) : s.writeFp fmt 0 v = s := by
  simp only [State.writeFp, hx, if_true]
  split <;> rfl

/-! ## The effect of an instruction -/

/-- `Effect i s t`: `t` is `s` after one write to the destination of `i`, flags that `i` may raise, and the advance of
the pc. -/
inductive Effect (i : Instr) (s : State) : State → Prop
  | fp {fmt rd} (hd : dest i = .fp fmt rd) (v : Bits fmt) {fl} (hfl : FlagRule i fl) :
      Effect i s ((s.writeFp fmt rd v).accrue fl).retire
  | x {rd} (hd : dest i = .x rd) (v : XWord) {fl} (hfl : FlagRule i fl) : Effect i s ((s.writeX rd v).accrue fl).retire
  | f {rd} (hd : dest i = .f rd) (v : FWord) : Effect i s (s.writeF rd v).retire
  | mem {fmt rs1 imm} (hd : dest i = .mem fmt rs1 imm) (v : FWord)
      (hmapped : s.allMapped (s.effAddr rs1 imm) (fmt.width / 8) = true)
      (htext : s.touchesText (s.effAddr rs1 imm) (fmt.width / 8) = false) :
      Effect i s (s.storeBytes (s.effAddr rs1 imm) (fmt.width / 8) v).retire
  | csr {rd csr c} (hd : dest i = .csr rd csr) (hi : neverSetsFlags i = false) (hc : csrOf csr = some c)
      (write : Bool) (v w : XWord) : Effect i s ((if write then s.writeCsr c w else s).writeX rd v).retire

theorem computed_eq_next {α : Type} {i : Instr} {r : Option α} {k : α → Outcome} {s t : State} :
    computed i r k s = .next t ↔ legal i s = true ∧ ∃ v, r = some v ∧ k v = .next t := by
  unfold computed
  rw [checked_eq_next]
  cases r <;> simp [raiseIllegal_ne_next]

/-- An instruction that completes has one of the five effects. -/
theorem Meaning.effect {i : Instr} (h : Meaning i) {s t : State} (ht : exec i s = .next t) : Effect i s t := by
  cases h with
  | @fpResult fmt rd res hd hself hpairs hexec hflags hreads =>
    rw [← hself, hexec] at ht
    obtain ⟨-, v, hv, hk⟩ := computed_eq_next.1 ht
    rw [completeFp_eq_next.1 hk]
    exact .fp hd _ (hflags s v hv)
  | @intResult rd res hd hself hcond hexec hflags hreads =>
    rw [← hself, hexec] at ht
    obtain ⟨-, v, hv, hk⟩ := computed_eq_next.1 ht
    rw [completeX_eq_next.1 hk]
    exact .x hd _ (hflags s v hv)
  | fWrite val hd hneeds hexec hreads =>
    rw [hexec] at ht
    obtain ⟨-, hk⟩ := checked_eq_next.1 ht
    rw [complete_eq_next.1 hk]
    exact .f hd _
  | load hd hneeds hmem hexec =>
    rw [hexec] at ht
    obtain ⟨-, -, -, rfl⟩ := load_next ht
    exact .f hd _
  | store hd hneeds hmem hexec =>
    rw [hexec] at ht
    obtain ⟨-, -, hmapped, htext, rfl⟩ := store_next ht
    exact .mem hd _ hmapped htext
  | @csr rd csr write new hd hself hcond hflags hexec hreads =>
    rw [← hself, hexec] at ht
    obtain ⟨c, hc, -, rfl⟩ := csrAccess_next ht
    exact .csr hd hflags hc write _ _

theorem exec_effect {i : Instr} {s t : State} (ht : exec i s = .next t) : Effect i s t := (exec_meaning i).effect ht

/-! ## Frames -/

/-- Settles O15: the effect of an instruction with a floating-point result writes through the destination write alone. -/
theorem frameOfFpResults : Obligations.FrameOfFpResults := by
  intro i s t fmt rd hdest ht
  cases exec_effect ht with
  | x hd | f hd | mem hd | csr hd => simp [hdest] at hd
  | fp hd v =>
    rw [hdest] at hd
    cases hd
    refine ⟨fun _ => by simp, by simp, by simp, fun hx => ⟨?_, fun r hr => ?_⟩, fun hx => ⟨?_, ?_, fun r hr hw => ?_⟩⟩
    · exact s.writeFp_x_of_not_inX _ _ _ hx
    · exact s.writeFp_f_of_ne _ _ hx hr
    · exact s.writeFp_f_of_inX _ _ _ hx
    · rintro rfl
      rw [State.writeFp_zero _ _ _ hx]
      rfl
    · exact s.writeFp_x_of_ne _ _ hx hr hw

/-- Settles O16: an effect on an f register writes that register and the pc. -/
theorem frameOfFRegisterWrites : Obligations.FrameOfFRegisterWrites := by
  intro i s t rd hdest ht
  cases exec_effect ht with
  | fp hd | x hd | mem hd | csr hd => simp [hdest] at hd
  | f hd v =>
    rw [hdest] at hd
    cases hd
    exact ⟨rfl, fun r hr => s.writeF_f_of_ne v hr, fun _ => rfl, rfl, rfl, rfl⟩

/-- Settles O17: an effect on an x register writes that register, the flags and the pc. -/
theorem frameOfIntegerResults : Obligations.FrameOfIntegerResults := by
  intro i s t rd hdest ht
  cases exec_effect ht with
  | fp hd | f hd | mem hd | csr hd => simp [hdest] at hd
  | x hd v =>
    rw [hdest] at hd
    cases hd
    refine ⟨by simp, fun r hr => s.writeX_x_of_ne v hr, ?_, fun _ => by simp, by simp, by simp⟩
    rintro rfl
    rfl

/-- Settles O18: an effect on memory writes the bytes of the access and the pc. -/
theorem frameOfStores : Obligations.FrameOfStores := by
  intro i s t fmt rs1 imm hdest hmem ht
  cases exec_effect ht with
  | fp hd | x hd | f hd | csr hd => simp [hdest] at hd
  | mem hd v =>
    rw [hdest] at hd
    cases hd
    exact ⟨rfl, rfl, rfl, rfl, rfl, fun a ha =>
      memRead_storedBytes_of_ne s _ v _ a hmem fun k hk => (ha k hk).symm⟩

theorem State.writeCsr_frm_of_fflags (s : State) (v : XWord) : (s.writeCsr .fflags v).frm = s.frm := rfl

theorem State.writeCsr_fflags_of_frm (s : State) (v : XWord) : (s.writeCsr .frm v).fflags = s.fflags := rfl

/-- Settles O19: an effect on a CSR writes the fields of that CSR, x[rd] and the pc. -/
theorem frameOfCsrAccesses : Obligations.FrameOfCsrAccesses := by
  intro i s t rd csr hdest ht
  cases exec_effect ht with
  | fp hd | x hd | f hd | mem hd => simp [hdest] at hd
  | @csr rd csr c hd _ hc write v w =>
    rw [hdest] at hd
    cases hd
    have hx : (if write then s.writeCsr c w else s).x = s.x := by split <;> simp
    refine ⟨?_, fun r hr => ?_, ?_, fun a => ?_, ?_, ?_, ?_⟩
    · cases write <;> simp
    · exact (State.writeX_x_of_ne _ v hr).trans (by simp [hx])
    · rintro rfl
      exact hx
    · cases write <;> simp
    · cases write <;> simp
    · rintro rfl
      cases hc
      cases write <;> simp [State.writeCsr_frm_of_fflags]
    · rintro rfl
      cases hc
      cases write <;> simp [State.writeCsr_fflags_of_frm]

/-- Settles O14: the flags of every effect but a CSR access are ORed in, in a legal combination. -/
theorem flagsAccrueInLegalCombinations : Obligations.FlagsAccrueInLegalCombinations := by
  intro i s t ht
  have hnone : s.fflags = s.fflags ||| 0#5 := by simp
  cases exec_effect ht with
  | fp hd v hfl | x hd v hfl =>
    obtain ⟨hlegal, hnever⟩ := hfl
    refine ⟨fun _ => ⟨by simp, _, hlegal, by simp⟩, fun hi => ?_⟩
    simp [hnever hi, noFlags]
  | f | mem => exact ⟨fun _ => ⟨rfl, 0#5, by simp, hnone⟩, fun _ => rfl⟩
  | csr hd hi => exact ⟨fun h => by simp [isCsrAccess, hd] at h, fun h => by simp [hi] at h⟩

end Sys2Proof.Machine


/-!
Instructions that complete: the checks of R106 for the rows not met so far, the next state of each shape, and the
statements that every row of a family answers it (40_fp_common.md R147, sections 6 and 9).
-/

namespace Sys2Proof.Machine

/-! ## The checks of a legal instruction (30_encoding.md R106) -/

section
variable {s : State} {x : Option Xlen} {ps : List Reg}

/-- Check 2 of R106 for the transfers of S. -/
theorem extHolds_f (h : s.cfg.ext.f = true) : Conditions.extHolds ⟨[[.f]], x, ps⟩ s.cfg.ext = true := by
  simpa [Conditions.extHolds, hasExt] using h

/-- Check 2 of R106 for the transfers of D. -/
theorem extHolds_d (h : s.cfg.ext.d = true) : Conditions.extHolds ⟨[[.d]], x, ps⟩ s.cfg.ext = true := by
  simpa [Conditions.extHolds, hasExt] using h

/-- Check 2 of R106 for the transfers of 16 bits: Zfh, Zfhmin or Zfbfmin. -/
theorem extHolds_halfTransfer (h : hasHTransfer s = true) :
    Conditions.extHolds ⟨[[.zfh], [.zfhmin], [.zfbfmin]], x, ps⟩ s.cfg.ext = true := by
  simp only [hasHTransfer, Bool.or_eq_true] at h
  obtain (h | h) | h := h <;> simp [Conditions.extHolds, hasExt, h]

/-- Check 2 of R106 for the conversions between H and S. -/
theorem extHolds_halfMin (h : hasHmin s = true) :
    Conditions.extHolds ⟨[[.zfh], [.zfhmin], [.zhinx], [.zhinxmin]], x, ps⟩ s.cfg.ext = true := by
  simp only [hasHmin, Bool.or_eq_true] at h
  obtain ((h | h) | h) | h := h <;> simp [Conditions.extHolds, hasExt, h]

/-- Check 2 of R106 for the conversions between H and D. -/
theorem extHolds_halfDouble (h : hasHD s = true) :
    Conditions.extHolds ⟨[[.zfh, .d], [.zfhmin, .d], [.zhinx, .zdinx], [.zhinxmin, .zdinx]], x, ps⟩ s.cfg.ext =
      true := by
  simp only [hasHD, Bool.or_eq_true, Bool.and_eq_true] at h
  obtain ⟨h | h, h'⟩ | ⟨h | h, h'⟩ := h <;> simp [Conditions.extHolds, hasExt, h, h']

/-- Check 2 of R106 for the conversions between H and Q. -/
theorem extHolds_halfQuad (h : hasHQ s = true) :
    Conditions.extHolds ⟨[[.zfh, .q], [.zfhmin, .q]], x, ps⟩ s.cfg.ext = true := by
  simp only [hasHQ, Bool.or_eq_true, Bool.and_eq_true] at h
  obtain ⟨h | h, h'⟩ := h <;> simp [Conditions.extHolds, hasExt, h, h']

/-- Check 2 of R106 for the conversions between BF16 and S. -/
theorem extHolds_bfloat (h : s.cfg.ext.zfbfmin = true) :
    Conditions.extHolds ⟨[[.zfbfmin]], x, ps⟩ s.cfg.ext = true := by
  simpa [Conditions.extHolds, hasExt] using h

/-- Check 2 of R106 for FLI.H, which Zvfh enables too (45_zfa.md R403). -/
theorem extHolds_fliHalf (h : s.cfg.ext.zfa = true) (h' : s.cfg.ext.zfh = true ∨ s.cfg.ext.zvfh = true) :
    Conditions.extHolds ⟨[[.zfa, .zfh], [.zfa, .zvfh]], x, ps⟩ s.cfg.ext = true := by
  obtain h' | h' := h' <;> simp [Conditions.extHolds, hasExt, h, h']

/-- Check 3 of R106 for a row of RV32. -/
theorem xlenHolds_rv32 {ext : List (List Ext)} (h : s.cfg.xlen = .rv32) :
    Conditions.xlenHolds ⟨ext, some .rv32, ps⟩ s.cfg.xlen = true := by
  simp [Conditions.xlenHolds, h]

end

/-! ## The next state of a legal instruction, shape by shape -/

section
variable {i : Instr} {s : State} {fmt : Fmt} {rd rs1 rs2 rs3 : Reg} {rm : BitVec 3} {mode : Mode}

theorem rounded1_of_legal {op : Mode → Bits fmt → Result fmt} (h : legal i s = true)
    (hm : s.resolveMode rm = some mode) :
    rounded1 i fmt op rd rs1 rm s = .next (fpDone s fmt rd (op mode (s.readFp fmt rs1))) := rounding_of_legal h hm

theorem rounded2_of_legal {op : Mode → Bits fmt → Bits fmt → Result fmt} (h : legal i s = true)
    (hm : s.resolveMode rm = some mode) :
    rounded2 i fmt op rd rs1 rs2 rm s = .next (fpDone s fmt rd (op mode (s.readFp fmt rs1) (s.readFp fmt rs2))) :=
  rounding_of_legal h hm

theorem fused_of_legal {p q : Bool} (h : legal i s = true) (hm : s.resolveMode rm = some mode) :
    fused i fmt p q rd rs1 rs2 rs3 rm s =
      .next (fpDone s fmt rd (ffma fmt p q mode (s.readFp fmt rs1) (s.readFp fmt rs2) (s.readFp fmt rs3))) :=
  rounding_of_legal h hm

theorem intToFp_of_legal {t : IntFmt} (h : legal i s = true) (hm : s.resolveMode rm = some mode) :
    intToFp i fmt t rd rs1 rm s = .next (fpDone s fmt rd (fcvtFp fmt mode (s.readInt t rs1))) := rounding_of_legal h hm

theorem fpToFp_of_legal {src : Fmt} (h : legal i s = true) (hm : s.resolveMode rm = some mode) :
    fpToFp i fmt src rd rs1 rm s = .next (fpDone s fmt rd (fcvtFf fmt src mode (s.readFp src rs1))) :=
  rounding_of_legal h hm

theorem modularConvert_of_legal (h : legal i s = true) :
    modularConvert i rd rs1 s =
      .next (xDone s rd ((fcvtmod (s.readFp .d rs1)).1.signExtend 64) (fcvtmod (s.readFp .d rs1)).2) :=
  checked_of_legal h

theorem extractLsb'_zero_eq_setWidth {w : ℕ} (v : BitVec w) (n : ℕ) : v.extractLsb' 0 n = v.setWidth n := by
  apply BitVec.eq_of_getLsbD_eq
  intro b hb
  simp [hb]

/-- A move into an x register raises no flag. -/
theorem complete_writeX (s : State) (rd : Reg) (v : XWord) : complete (s.writeX rd v) = .next (xDone s rd v 0) := by
  have h : (s.writeX rd v).accrue 0 = s.writeX rd v := State.accrue_noFlags _
  rw [xDone, h]
  rfl

theorem moveToX_of_legal (h : legal i s = true) :
    moveToX i fmt rd rs1 s = .next (xDone s rd (((s.readF rs1).extractLsb' 0 fmt.width).signExtend 64) 0) := by
  rw [extractLsb'_zero_eq_setWidth, moveToX, checked_of_legal h, complete_writeX]

theorem moveFromX_of_legal (h : legal i s = true) :
    moveFromX i fmt rd rs1 s = .next (fDone s rd (box s.flen fmt ((s.readX rs1).extractLsb' 0 fmt.width))) := by
  rw [extractLsb'_zero_eq_setWidth]
  exact checked_of_legal h

theorem moveHighToX_of_legal {n : Nat} (h : legal i s = true) :
    moveHighToX i n rd rs1 s = .next (xDone s rd (((s.readF rs1).extractLsb' n n).signExtend 64) 0) := by
  rw [moveHighToX, checked_of_legal h, complete_writeX]

theorem movePairFromX_of_legal {n : Nat} (h : legal i s = true) :
    movePairFromX i fmt n rd rs1 rs2 s = .next (fDone s rd
      (box s.flen fmt (((s.readX rs2).setWidth n ++ (s.readX rs1).setWidth n).setWidth fmt.width))) :=
  checked_of_legal h

theorem loadConstant_of_legal {k : BitVec 5} (h : legal i s = true) :
    loadConstant i fmt rd k s = .next (fDone s rd (box s.flen fmt (fli fmt k))) := checked_of_legal h

end

/-! ## Arithmetic -/

/-- Settles O31: a legal instruction with a mode answers the next state of its shape. -/
theorem arithmeticCompletes : Obligations.ArithmeticCompletes := by
  intro rd rs1 rs2 rm s mode hen hm
  refine ⟨fun hs => ?_, fun hd hp => ?_, fun hq => ?_, fun hh => ?_, fun hs => ?_, fun hd hp => ?_, fun hq => ?_,
    fun hh => ?_⟩
  · refine ⟨?_, ?_, ?_, ?_⟩ <;> exact rounded2_of_legal (legal_of hen (extHolds_single hs) rfl (pairsOk_nil s)) hm
  · refine ⟨?_, ?_, ?_, ?_⟩ <;> exact rounded2_of_legal (legal_of hen (extHolds_double hd) rfl hp) hm
  · refine ⟨?_, ?_, ?_, ?_⟩ <;> exact rounded2_of_legal (legal_of hen (extHolds_quad hq) rfl (pairsOk_nil s)) hm
  · refine ⟨?_, ?_, ?_, ?_⟩ <;> exact rounded2_of_legal (legal_of hen (extHolds_half hh) rfl (pairsOk_nil s)) hm
  · exact rounded1_of_legal (legal_of hen (extHolds_single hs) rfl (pairsOk_nil s)) hm
  · exact rounded1_of_legal (legal_of hen (extHolds_double hd) rfl hp) hm
  · exact rounded1_of_legal (legal_of hen (extHolds_quad hq) rfl (pairsOk_nil s)) hm
  · exact rounded1_of_legal (legal_of hen (extHolds_half hh) rfl (pairsOk_nil s)) hm

/-- Settles O32: as O31, for the shape of three operands. -/
theorem fusedMultiplyAddCompletes : Obligations.FusedMultiplyAddCompletes := by
  intro rd rs1 rs2 rs3 rm s mode hen hm
  refine ⟨fun hs => ?_, fun hd hp => ?_, fun hq => ?_, fun hh => ?_⟩
  · refine ⟨?_, ?_, ?_, ?_⟩ <;> exact fused_of_legal (legal_of hen (extHolds_single hs) rfl (pairsOk_nil s)) hm
  · refine ⟨?_, ?_, ?_, ?_⟩ <;> exact fused_of_legal (legal_of hen (extHolds_double hd) rfl hp) hm
  · refine ⟨?_, ?_, ?_, ?_⟩ <;> exact fused_of_legal (legal_of hen (extHolds_quad hq) rfl (pairsOk_nil s)) hm
  · refine ⟨?_, ?_, ?_, ?_⟩ <;> exact fused_of_legal (legal_of hen (extHolds_half hh) rfl (pairsOk_nil s)) hm

/-- FROUND asks no flag of its rounding (R164). -/
theorem fround_false_flags {fmt : Fmt} (mode : Mode) (a : Bits fmt) :
    (fround fmt false mode a).2 = flagIf (isSNaN a) NV := by
  unfold fround
  split_ifs with hnan hinf
  · rfl
  · rw [isSNaN_of_not_isNaN (by simpa using hnan)]
    rfl
  · rw [isSNaN_of_not_isNaN (by simpa using hnan)]
    rfl

/-- Settles O35: legal instructions complete, and the inexact flag is FROUNDNX's alone. -/
theorem roundToIntegralCompletes : Obligations.RoundToIntegralCompletes := by
  refine ⟨fun rd rs1 rm s mode hen hm => ⟨fun ha => ?_, fun ⟨ha, hd⟩ => ?_, fun ⟨ha, hq⟩ => ?_, fun ⟨ha, hh⟩ => ?_⟩,
    fun fmt mode a => fround_false_flags mode a⟩
  · refine ⟨?_, ?_⟩ <;> exact rounded1_of_legal (legal_of hen (extHolds_zfa ha) rfl (pairsOk_nil s)) hm
  · refine ⟨?_, ?_⟩ <;> exact rounded1_of_legal (legal_of hen (extHolds_zfa_and ha hd) rfl (pairsOk_nil s)) hm
  · refine ⟨?_, ?_⟩ <;> exact rounded1_of_legal (legal_of hen (extHolds_zfa_and ha hq) rfl (pairsOk_nil s)) hm
  · refine ⟨?_, ?_⟩ <;> exact rounded1_of_legal (legal_of hen (extHolds_zfa_and ha hh) rfl (pairsOk_nil s)) hm

/-! ## Conversions -/

/-- The integers of the four integer formats (R162). -/
theorem State.readInt_eq (s : State) (r : Reg) :
    s.readInt .w r = ((s.readX r).extractLsb' 0 32).toInt ∧ s.readInt .wu r = ((s.readX r).extractLsb' 0 32).toNat ∧
      s.readInt .l r = (s.readX r).toInt ∧ s.readInt .lu r = (s.readX r).toNat := by
  simp only [extractLsb'_zero_eq_setWidth]
  refine ⟨rfl, rfl, ?_, ?_⟩
  · exact congrArg BitVec.toInt (BitVec.setWidth_eq _)
  · exact congrArg (fun v : XWord => (v.toNat : ℤ)) (BitVec.setWidth_eq _)

/-- The four conversions into a format complete under one set of conditions, those from L and LU on RV64. -/
theorem intToFp_forms {iw iwu il ilu : Instr} {ext : List (List Ext)} {ps : List Reg} {fmt : Fmt} {rd rs1 : Reg}
    {rm : BitVec 3} {s : State} {mode : Mode} (hw : conditions iw = needs ext ps) (hwu : conditions iwu = needs ext ps)
    (hl : conditions il = needs64 ext ps) (hlu : conditions ilu = needs64 ext ps) (hen : s.fpEnabled = true)
    (hm : s.resolveMode rm = some mode) (hext : (needs ext ps).extHolds s.cfg.ext = true)
    (hpairs : pairsOk s ps = true) :
    let next (n : ℤ) : Outcome := .next (fpDone s fmt rd (fcvtFp fmt mode n))
    intToFp iw fmt .w rd rs1 rm s = next ((s.readX rs1).extractLsb' 0 32).toInt ∧
      intToFp iwu fmt .wu rd rs1 rm s = next ((s.readX rs1).extractLsb' 0 32).toNat ∧
      (s.cfg.xlen = .rv64 → intToFp il fmt .l rd rs1 rm s = next (s.readX rs1).toInt ∧
        intToFp ilu fmt .lu rd rs1 rm s = next (s.readX rs1).toNat) := by
  have hlegal {i : Instr} (hi : conditions i = needs ext ps) : legal i s = true :=
    legal_of hen (by rw [hi]; exact hext) (by rw [hi]; rfl) (by rw [hi]; exact hpairs)
  have hlegal64 {i : Instr} (hi : conditions i = needs64 ext ps) (hx : s.cfg.xlen = .rv64) : legal i s = true :=
    legal_of hen (by rw [hi]; exact hext) (by rw [hi]; exact xlenHolds_rv64 hx) (by rw [hi]; exact hpairs)
  obtain ⟨readW, readWu, readL, readLu⟩ := s.readInt_eq rs1
  refine ⟨?_, ?_, fun hx => ⟨?_, ?_⟩⟩
  · rw [intToFp_of_legal (hlegal hw) hm, readW]
  · rw [intToFp_of_legal (hlegal hwu) hm, readWu]
  · rw [intToFp_of_legal (hlegal64 hl hx) hm, readL]
  · rw [intToFp_of_legal (hlegal64 hlu hx) hm, readLu]

/-- Settles O39: the four integer formats read the register as R162 says. -/
theorem integerToFloatCompletes : Obligations.IntegerToFloatCompletes := by
  intro rd rs1 rm s mode hen hm
  exact ⟨fun hs => intToFp_forms (iw := .fcvtSW rd rs1 rm) (iwu := .fcvtSWu rd rs1 rm) (il := .fcvtSL rd rs1 rm)
      (ilu := .fcvtSLu rd rs1 rm) rfl rfl rfl rfl hen hm (extHolds_single hs) (pairsOk_nil s),
    fun hd hp => intToFp_forms (iw := .fcvtDW rd rs1 rm) (iwu := .fcvtDWu rd rs1 rm) (il := .fcvtDL rd rs1 rm)
      (ilu := .fcvtDLu rd rs1 rm) rfl rfl rfl rfl hen hm (extHolds_double hd) hp,
    fun hq => intToFp_forms (iw := .fcvtQW rd rs1 rm) (iwu := .fcvtQWu rd rs1 rm) (il := .fcvtQL rd rs1 rm)
      (ilu := .fcvtQLu rd rs1 rm) rfl rfl rfl rfl hen hm (extHolds_quad hq) (pairsOk_nil s),
    fun hh => intToFp_forms (iw := .fcvtHW rd rs1 rm) (iwu := .fcvtHWu rd rs1 rm) (il := .fcvtHL rd rs1 rm)
      (ilu := .fcvtHLu rd rs1 rm) rfl rfl rfl rfl hen hm (extHolds_half hh) (pairsOk_nil s)⟩

/-- Settles O40: each row under its own check 2 of R106. -/
theorem floatToFloatCompletes : Obligations.FloatToFloatCompletes := by
  intro rd rs1 rm s mode hen hm
  refine ⟨fun hd hp => ?_, fun hd hp => ?_, fun hq => ?_, fun hq => ?_, fun hq => ?_, fun hq => ?_, fun hh => ?_,
    fun hh => ?_, fun hh hp => ?_, fun hh hp => ?_, fun hh => ?_, fun hh => ?_, fun hb => ?_, fun hb => ?_⟩
  · exact fpToFp_of_legal (legal_of hen (extHolds_double hd) rfl hp) hm
  · exact fpToFp_of_legal (legal_of hen (extHolds_double hd) rfl hp) hm
  · exact fpToFp_of_legal (legal_of hen (extHolds_quad hq) rfl (pairsOk_nil s)) hm
  · exact fpToFp_of_legal (legal_of hen (extHolds_quad hq) rfl (pairsOk_nil s)) hm
  · exact fpToFp_of_legal (legal_of hen (extHolds_quad hq) rfl (pairsOk_nil s)) hm
  · exact fpToFp_of_legal (legal_of hen (extHolds_quad hq) rfl (pairsOk_nil s)) hm
  · exact fpToFp_of_legal (legal_of hen (extHolds_halfMin hh) rfl (pairsOk_nil s)) hm
  · exact fpToFp_of_legal (legal_of hen (extHolds_halfMin hh) rfl (pairsOk_nil s)) hm
  · exact fpToFp_of_legal (legal_of hen (extHolds_halfDouble hh) rfl hp) hm
  · exact fpToFp_of_legal (legal_of hen (extHolds_halfDouble hh) rfl hp) hm
  · exact fpToFp_of_legal (legal_of hen (extHolds_halfQuad hh) rfl (pairsOk_nil s)) hm
  · exact fpToFp_of_legal (legal_of hen (extHolds_halfQuad hh) rfl (pairsOk_nil s)) hm
  · exact fpToFp_of_legal (legal_of hen (extHolds_bfloat hb) rfl (pairsOk_nil s)) hm
  · exact fpToFp_of_legal (legal_of hen (extHolds_bfloat hb) rfl (pairsOk_nil s)) hm

/-! ## FCVTMOD.W.D (R165) -/

section
variable {a : Bits .d}

theorem fcvtmod_of_isFinite (ha : isFinite a = true) :
    fcvtmod a = (BitVec.ofInt 32 (roundToInt .rtz (valueOf a)), (fcvtInt .d .w .rtz a).2) := by
  simp [fcvtmod, isNaN_of_isFinite ha, isInf_of_isFinite ha]

theorem isNaN_or_isInf_of_not_isFinite {fmt : Fmt} {v : Bits fmt} (h : isFinite v = false) :
    isNaN v = true ∨ isInf v = true := by
  by_contra hc
  simp only [not_or, Bool.not_eq_true] at hc
  rw [isFinite_of_not_isNaN_isInf hc.1 hc.2] at h
  cases h

theorem fcvtInt_flags_of_not_isFinite (ha : isFinite a = false) : (fcvtInt .d .w .rtz a).2 = NV := by
  obtain h | h := isNaN_or_isInf_of_not_isFinite ha
  · simp [fcvtInt, h]
  · simp [fcvtInt, isNaN_of_isInf h, h]

theorem fcvtmod_of_not_isFinite (ha : isFinite a = false) : fcvtmod a = (0#32, NV) := by
  rw [← fcvtInt_flags_of_not_isFinite ha]
  obtain h | h := isNaN_or_isInf_of_not_isFinite ha <;> simp [fcvtmod, h]

end

/-- Settles O41: the integer of FCVTMOD.W.D is the one that RTZ chooses, and its flags are those of FCVT.W.D. -/
theorem modularConvertCompletes : Obligations.ModularConvertCompletes := by
  refine ⟨fun rd rs1 s hen ha hd => ?_, fun a n => ⟨fun ha hn => ?_, fcvtmod_of_not_isFinite⟩⟩
  · have hnext := modularConvert_of_legal (rd := rd) (rs1 := rs1)
      (legal_of (i := .fcvtmodWD rd rs1) hen (extHolds_zfa_and ha hd) rfl (pairsOk_nil s))
    refine ⟨fun hfin => ?_, fun hfin => ⟨?_, fcvtInt_flags_of_not_isFinite hfin⟩⟩
    · rw [fcvtmod_of_isFinite hfin] at hnext
      exact hnext
    · rw [fcvtmod_of_not_isFinite hfin, ← fcvtInt_flags_of_not_isFinite hfin] at hnext
      exact hnext
  · obtain hround : roundToInt .rtz (valueOf a) = n := chosen_unique (chosen_roundToInt .rtz (valueOf a)) hn
    have hlo : IntFmt.w.lo = -2147483648 := rfl
    have hhi : IntFmt.w.hi = 2147483647 := rfl
    rw [fcvtmod_of_isFinite ha, fcvtInt_of_isFinite ha hn, hround, hlo, hhi]
    refine ⟨rfl, fun hge hle => ?_, fun hout => ?_⟩
    · rw [if_neg hge.not_gt, if_neg hle.not_gt]
    · obtain hlt | hgt := hout
      · rw [if_pos hlt]
        rfl
      · rw [if_neg (by omega), if_pos hgt]
        rfl

/-! ## Moves and constants -/

/-- Settles O42: a move reads raw bits, so each row has one next state under its extension and XLEN. -/
theorem movesComplete : Obligations.MovesComplete := by
  intro rd rs1 rs2 k s hen
  have hlegal {i : Instr} {ext : List (List Ext)} (hi : conditions i = needs ext)
      (hext : (needs ext).extHolds s.cfg.ext = true) : legal i s = true :=
    legal_of hen (by rw [hi]; exact hext) (by rw [hi]; rfl) (by rw [hi]; exact pairsOk_nil s)
  have hlegal64 {i : Instr} {ext : List (List Ext)} (hi : conditions i = needs64 ext)
      (hext : (needs64 ext).extHolds s.cfg.ext = true) (hx : s.cfg.xlen = .rv64) : legal i s = true :=
    legal_of hen (by rw [hi]; exact hext) (by rw [hi]; exact xlenHolds_rv64 hx) (by rw [hi]; exact pairsOk_nil s)
  have hlegal32 {i : Instr} {ext : List (List Ext)} (hi : conditions i = needs32 ext)
      (hext : (needs32 ext).extHolds s.cfg.ext = true) (hx : s.cfg.xlen = .rv32) : legal i s = true :=
    legal_of hen (by rw [hi]; exact hext) (by rw [hi]; exact xlenHolds_rv32 hx) (by rw [hi]; exact pairsOk_nil s)
  refine ⟨fun hf => ⟨?_, ?_⟩, fun hd hx => ⟨?_, ?_⟩, fun hh => ⟨?_, ?_⟩, fun ⟨ha, hd⟩ hx => ⟨?_, ?_⟩,
    fun ⟨ha, hq⟩ hx => ⟨?_, ?_⟩, fun ha => ?_, fun ⟨ha, hd⟩ => ?_, fun ⟨ha, hq⟩ => ?_, fun ⟨ha, hh⟩ => ?_⟩
  · exact moveToX_of_legal (hlegal rfl (extHolds_f hf))
  · exact moveFromX_of_legal (hlegal rfl (extHolds_f hf))
  · refine (moveToX_of_legal (hlegal64 rfl (extHolds_d hd) hx)).trans ?_
    exact congrArg (fun v => Host.Outcome.next (xDone s rd v 0)) (BitVec.signExtend_eq _)
  · refine (moveFromX_of_legal (hlegal64 rfl (extHolds_d hd) hx)).trans ?_
    exact congrArg (fun v => Host.Outcome.next (fDone s rd (box s.flen .d v))) BitVec.extractLsb'_eq_self
  · exact moveToX_of_legal (hlegal rfl (extHolds_halfTransfer hh))
  · exact moveFromX_of_legal (hlegal rfl (extHolds_halfTransfer hh))
  · exact moveHighToX_of_legal (hlegal32 rfl (extHolds_zfa_and (e := .d) ha hd) hx)
  · refine (movePairFromX_of_legal (hlegal32 rfl (extHolds_zfa_and (e := .d) ha hd) hx)).trans ?_
    rw [extractLsb'_zero_eq_setWidth, extractLsb'_zero_eq_setWidth]
    exact congrArg (fun v => Host.Outcome.next (fDone s rd (box s.flen .d v))) (BitVec.setWidth_eq _)
  · refine (moveHighToX_of_legal (hlegal64 rfl (extHolds_zfa_and (e := .q) ha hq) hx)).trans ?_
    rw [BitVec.signExtend_eq]
  · refine (movePairFromX_of_legal (hlegal64 rfl (extHolds_zfa_and (e := .q) ha hq) hx)).trans ?_
    rw [BitVec.setWidth_eq (s.readX rs2), BitVec.setWidth_eq (s.readX rs1)]
    exact congrArg (fun v => Host.Outcome.next (fDone s rd (box s.flen .q v))) (BitVec.setWidth_eq _)
  · exact loadConstant_of_legal (hlegal rfl (extHolds_zfa ha))
  · exact loadConstant_of_legal (hlegal rfl (extHolds_zfa_and (e := .d) ha hd))
  · exact loadConstant_of_legal (hlegal rfl (extHolds_zfa_and (e := .q) ha hq))
  · exact loadConstant_of_legal (hlegal rfl (extHolds_fliHalf ha hh))

/-! ## CSR accesses (48_csr_access.md) -/

theorem csrAccess_of_legal {i : Instr} {rd : Reg} {csr : BitVec 12} {c : Csr} {write : Bool} {new : XWord → XWord}
    {s : State} (hc : csrOf csr = some c) (h : legal i s = true) :
    csrAccess i rd csr write new s =
      .next ((if write then s.writeCsr c (new (s.readCsr c)) else s).writeX rd (s.readCsr c)).retire := by
  simp only [csrAccess, hc, checked_of_legal h]
  rfl

theorem csrOf_eq_none {csr : BitVec 12} (h1 : csr ≠ 1#12) (h2 : csr ≠ 2#12) (h3 : csr ≠ 3#12) : csrOf csr = none := by
  simp [csrOf, h1, h2, h3]

/-- Settles O43: a legal access reads the old value first, and its write is the one of `writeCsr`. -/
theorem csrAccessesComplete : Obligations.CsrAccessesComplete := by
  intro rd rs1 uimm s hen hs full old num put done c
  have hnum : csrOf (num c) = some c := by cases c <;> rfl
  have hold : s.readCsr c = old c := by
    cases c with
    | fflags | frm => rfl
    | fcsr => exact s.readCsr_fcsr
  have hput (v : XWord) : s.writeCsr c v = put c v := by cases c <;> rfl
  have hnext {i : Instr} {write : Bool} {new : XWord → XWord} (hi : conditions i = needs [[.f], [.zfinx]]) :
      csrAccess i rd (num c) write new s = done c (if write then put c (new (old c)) else s) := by
    rw [csrAccess_of_legal hnum (legal_of hen (by rw [hi]; exact extHolds_single hs) (by rw [hi]; rfl)
      (by rw [hi]; exact pairsOk_nil s)), hold, hput]
  have hclear {n : ℕ} (r : BitVec n) (u : State) : (if r != 0 then u else s) = if r = 0 then s else u := by
    by_cases h : r = 0 <;> simp [h]
  refine ⟨?_, ?_, ?_, ?_, ?_, ?_⟩
  · exact hnext (i := .csrrw rd (num c) rs1) (write := true) (new := fun _ => s.readX rs1) rfl
  · rw [← hclear]
    exact hnext (i := .csrrs rd (num c) rs1) (write := rs1 != 0) (new := fun t => t ||| s.readX rs1) rfl
  · rw [← hclear]
    exact hnext (i := .csrrc rd (num c) rs1) (write := rs1 != 0) (new := fun t => t &&& ~~~s.readX rs1) rfl
  · exact hnext (i := .csrrwi rd (num c) uimm) (write := true) (new := fun _ => uimm.setWidth 64) rfl
  · rw [← hclear]
    exact hnext (i := .csrrsi rd (num c) uimm) (write := uimm != 0) (new := fun t => t ||| uimm.setWidth 64) rfl
  · rw [← hclear]
    exact hnext (i := .csrrci rd (num c) uimm) (write := uimm != 0) (new := fun t => t &&& ~~~uimm.setWidth 64) rfl

theorem csrAccess_of_csrOf_eq_none {i : Instr} {rd : Reg} {csr : BitVec 12} {write : Bool} {new : XWord → XWord}
    {s : State} (hc : csrOf csr = none) : csrAccess i rd csr write new s = .refused (.csrOutOfScope csr) := by
  simp only [csrAccess, hc]

/-- An access to a number that names no CSR is refused before any check (R499). -/
theorem exec_of_csrOf_eq_none {i : Instr} {rd : Reg} {csr : BitVec 12} (hd : dest i = .csr rd csr)
    (hc : csrOf csr = none) (s : State) : exec i s = .refused (.csrOutOfScope csr) := by
  cases exec_meaning i with
  | fpResult _ hd' | intResult _ hd' | fWrite _ hd' | load hd' | store hd' => simp [hd] at hd'
  | csr new hd' hself hcond hflags hexec =>
    rw [hd] at hd'
    cases hd'
    rw [← hself, hexec, csrAccess_of_csrOf_eq_none hc]

/-- Settles O44: a number that names no CSR is looked at first; a known one needs F or Zfinx. -/
theorem csrAccessStops : Obligations.CsrAccessStops := by
  intro rd csr r s i hi
  have hi' : dest i = .csr rd csr ∧ conditions i = needs [[.f], [.zfinx]] := by
    simp only [List.mem_cons, List.not_mem_nil, or_false] at hi
    obtain rfl | rfl | rfl | rfl | rfl | rfl := hi <;> exact ⟨rfl, rfl⟩
  obtain ⟨hd, hcond⟩ := hi'
  refine ⟨fun h1 h2 h3 => exec_of_csrOf_eq_none hd (csrOf_eq_none h1 h2 h3) s, fun hcsr hs => ?_⟩
  have hext : (conditions i).extHolds s.cfg.ext = false := by
    rw [hcond]
    simpa [needs, Conditions.extHolds, hasExt, hasS] using hs
  have hknown : csrKnown i = true := by
    rw [csrKnown, hd]
    obtain rfl | rfl | rfl := hcsr <;> rfl
  exact exec_of_not_legal (legal_of_not_extHolds hext) hknown

end Sys2Proof.Machine


/-!
Instructions that do not complete: missing extensions, the other XLEN, odd pairs, FS Off (30_encoding.md R106 to R111),
and everything that can stop an instruction (60_exceptions.md sections 1 and 6).
-/

namespace Sys2Proof.Machine

/-! ## Failed checks, for a list of instructions -/

/-- Instructions that all ask for one of the same sets of extensions, and are no CSR accesses to an unknown number. -/
def SameExt (ext : List (List Ext)) (is : List Instr) : Prop :=
  is.map (fun i => ((conditions i).ext, csrKnown i)) = List.replicate is.length (ext, true)

section
variable {is : List Instr} {s : State}

theorem SameExt.illegal {ext : List (List Ext)} (h : SameExt ext is) (hext : (needs ext).extHolds s.cfg.ext = false) :
    ∀ i ∈ is, exec i s = illegalOutcome i s := by
  intro i hi
  obtain ⟨rfl, hk⟩ := Prod.mk.inj (List.map_eq_replicate_iff.1 h i hi)
  exact exec_of_not_legal (legal_of_not_extHolds hext) hk

/-- Instructions of the one XLEN that is not the state's (R110). -/
theorem illegal_of_xlen {x : Xlen} (hx : s.cfg.xlen ≠ x)
    (h : is.map (fun i => ((conditions i).xlen, csrKnown i)) = List.replicate is.length (some x, true)) :
    ∀ i ∈ is, exec i s = illegalOutcome i s := by
  intro i hi
  obtain ⟨hxlen, hk⟩ := Prod.mk.inj (List.map_eq_replicate_iff.1 h i hi)
  refine exec_of_not_legal ?_ hk
  simp [legal, Conditions.xlenHolds, hxlen, hx]

/-- The place of source operand `n` among the register fields that name a double: behind `rd` where the destination is a
double too (R111). -/
def operandPlace (n : ℕ) (i : Instr) : ℕ :=
  match dest i with
  | .fp .d _ => n
  | _ => n - 1

/-- Instructions with a field for a double, at the place `n`, that names an odd register (R111). -/
theorem illegal_of_odd {n : Instr → ℕ} {r : Reg} (hx : s.cfg.xlen = .rv32) (hz : s.cfg.ext.zdinx = true)
    (hr : r.toNat % 2 = 1)
    (h : is.map (fun i => ((conditions i).pairs[n i]?, csrKnown i)) = List.replicate is.length (some r, true)) :
    ∀ i ∈ is, exec i s = illegalOutcome i s := by
  intro i hi
  obtain ⟨hplace, hk⟩ := Prod.mk.inj (List.map_eq_replicate_iff.1 h i hi)
  have hodd : pairsOk s (conditions i).pairs = false := by
    simp only [pairsOk, hx, hz, beq_self_eq_true, Bool.and_self, Bool.not_true, Bool.false_or, List.all_eq_false]
    exact ⟨r, List.mem_of_getElem? hplace, by simp [hr]⟩
  refine exec_of_not_legal ?_ hk
  simp [legal, Conditions.pairsHold_eq_pairsOk, hodd]

end

/-- Settles O22: each group of rows fails check 2 of R106, and the last two check 3. -/
theorem missingExtensionIsIllegal : Obligations.MissingExtensionIsIllegal := by
  intro rd rs1 rs2 rs3 rm imm k s
  refine ⟨fun h => SameExt.illegal (ext := [[.f]]) rfl ?_, fun h => SameExt.illegal (ext := [[.d]]) rfl ?_,
    fun h => SameExt.illegal (ext := [[.q]]) rfl ?_,
    fun h => SameExt.illegal (ext := [[.zfh], [.zfhmin], [.zfbfmin]]) rfl ?_,
    fun h => SameExt.illegal (ext := [[.f], [.zfinx]]) rfl ?_,
    fun h => SameExt.illegal (ext := [[.d], [.zdinx]]) rfl ?_, fun h => SameExt.illegal (ext := [[.q]]) rfl ?_,
    fun h => SameExt.illegal (ext := [[.zfh], [.zhinx]]) rfl ?_,
    fun h => SameExt.illegal (ext := [[.zfh], [.zfhmin], [.zhinx], [.zhinxmin]]) rfl ?_,
    fun h => SameExt.illegal (ext := [[.zfh, .d], [.zfhmin, .d], [.zhinx, .zdinx], [.zhinxmin, .zdinx]]) rfl ?_,
    fun h => SameExt.illegal (ext := [[.zfh, .q], [.zfhmin, .q]]) rfl ?_,
    fun h => SameExt.illegal (ext := [[.zfbfmin]]) rfl ?_, fun h => SameExt.illegal (ext := [[.zfa]]) rfl ?_,
    fun h => SameExt.illegal (ext := [[.zfa, .d]]) rfl ?_, fun h => SameExt.illegal (ext := [[.zfa, .q]]) rfl ?_,
    fun h => SameExt.illegal (ext := [[.zfa, .zfh]]) rfl ?_,
    fun h => SameExt.illegal (ext := [[.zfa, .zfh], [.zfa, .zvfh]]) rfl ?_,
    fun h => illegal_of_xlen (x := .rv64) (by simp [h]) rfl, fun h => illegal_of_xlen (x := .rv32) (by simp [h]) rfl⟩
  all_goals
    revert h
    simp +contextual [needs, Conditions.extHolds, hasExt, hasS, hasD, hasQ, hasH, hasHmin, hasHD, hasHQ, hasHTransfer,
      or_comm]

/-- Settles O23: the fields of each list are among the pairs of its rows. -/
theorem oddPairRegisterIsIllegal : Obligations.OddPairRegisterIsIllegal := by
  intro rd rs1 rs2 rs3 rm s hx hz
  exact ⟨fun h => illegal_of_odd (n := fun _ => 0) hx hz h rfl, fun h => illegal_of_odd (n := operandPlace 1) hx hz h rfl,
    fun h => illegal_of_odd (n := operandPlace 2) hx hz h rfl, fun h => illegal_of_odd (n := operandPlace 3) hx hz h rfl⟩

/-! ## What can stop an instruction (60_exceptions.md sections 1 and 6) -/

/-- What an instruction may answer when it does not go on: the faults and the refusals with what they say. -/
def StopRule (i : Instr) (s : State) : Outcome → Prop
  | .next _ => True
  | .fault (.trap e _) =>
    e = .illegalInstruction (encode i) ∨
      ∃ fmt rs1 imm, memAccess i = some (fmt, rs1, imm) ∧
        (isStore i = false → e = .loadAddressMisaligned (s.effAddr rs1 imm) ∨ e = .loadAccessFault (s.effAddr rs1 imm)) ∧
        (isStore i = true →
          e = .storeAddressMisaligned (s.effAddr rs1 imm) ∨ e = .storeAccessFault (s.effAddr rs1 imm))
  | .refused r =>
    (∃ rd csr, dest i = .csr rd csr ∧ csr ∉ [0x001#12, 0x002#12, 0x003#12] ∧ r = .csrOutOfScope csr) ∨
      (∃ fmt rs1 imm, dest i = .mem fmt rs1 imm ∧ r = .storeToProgramText (s.effAddr rs1 imm) ∧
        ∃ k < fmt.width / 8, s.cfg.progBase ≤ s.byteAddr (s.effAddr rs1 imm) k ∧
          s.byteAddr (s.effAddr rs1 imm) k < s.cfg.progEnd)

section
variable {i : Instr} {s : State}

theorem stopRule_raiseIllegal : StopRule i s (raiseIllegal i s) := Or.inl rfl

theorem StopRule.checked {e : Outcome} (h : StopRule i s e) : StopRule i s (checked i s e) := by
  unfold Machine.checked
  split
  · exact h
  · exact stopRule_raiseIllegal

theorem StopRule.computed {α : Type} {r : Option α} {k : α → Outcome} (h : ∀ v, StopRule i s (k v)) :
    StopRule i s (computed i r k s) := by
  refine StopRule.checked ?_
  split
  · exact h _
  · exact stopRule_raiseIllegal

/-- A load raises nothing but the two exceptions of its kind. -/
theorem stopRule_load {fmt : Fmt} {rd rs1 : Reg} {imm : BitVec 12} (hmem : memAccess i = some (fmt, rs1, imm))
    (hi : isStore i = false) : StopRule i s (load i fmt rd rs1 imm s) := by
  have hfault {e : Exception} (he : e = .loadAddressMisaligned (s.effAddr rs1 imm) ∨
      e = .loadAccessFault (s.effAddr rs1 imm)) : StopRule i s (raise e s) :=
    Or.inr ⟨fmt, rs1, imm, hmem, fun _ => he, fun h => by simp [hi] at h⟩
  refine StopRule.checked ?_
  dsimp only
  split_ifs
  · exact hfault (.inl rfl)
  · trivial
  · exact hfault (.inr rfl)

/-- A store raises nothing but the two exceptions of its kind, and is refused for a byte of the program text alone. -/
theorem stopRule_store {fmt : Fmt} {rs2 rs1 : Reg} {imm : BitVec 12} (hmem : memAccess i = some (fmt, rs1, imm))
    (hd : dest i = .mem fmt rs1 imm) : StopRule i s (store i fmt rs2 rs1 imm s) := by
  have hi : isStore i = true := by rw [isStore, hd]
  have hfault {e : Exception} (he : e = .storeAddressMisaligned (s.effAddr rs1 imm) ∨
      e = .storeAccessFault (s.effAddr rs1 imm)) : StopRule i s (raise e s) :=
    Or.inr ⟨fmt, rs1, imm, hmem, fun h => by simp [hi] at h, fun _ => he⟩
  refine StopRule.checked ?_
  dsimp only
  split_ifs with hmis hmapped htext
  · exact hfault (.inl rfl)
  · refine Or.inr ⟨fmt, rs1, imm, hd, rfl, ?_⟩
    simpa [State.touchesText] using htext
  · trivial
  · exact hfault (.inr rfl)

theorem stopRule_csrAccess {rd : Reg} {csr : BitVec 12} {write : Bool} {new : XWord → XWord}
    (hd : dest i = .csr rd csr) : StopRule i s (csrAccess i rd csr write new s) := by
  unfold csrAccess
  split
  next hnone =>
    refine Or.inl ⟨rd, csr, hd, fun hmem => ?_, rfl⟩
    simp only [List.mem_cons, List.not_mem_nil, or_false] at hmem
    obtain rfl | rfl | rfl := hmem <;> cases hnone
  next => exact StopRule.checked trivial

theorem stopRule_exec (i : Instr) (s : State) : StopRule i s (exec i s) := by
  cases exec_meaning i with
  | fpResult res hd hself hpairs hexec | intResult res hd hself hcond hexec =>
    rw [← hself, hexec, hself]
    exact StopRule.computed fun _ => trivial
  | fWrite val hd hneeds hexec =>
    rw [hexec]
    exact StopRule.checked trivial
  | load hd hneeds hmem hexec =>
    rw [hexec]
    exact stopRule_load hmem (by rw [isStore, hd])
  | store hd hneeds hmem hexec =>
    rw [hexec]
    exact stopRule_store hmem hd
  | csr new hd hself hcond hflags hexec =>
    rw [← hself, hexec, hself]
    exact stopRule_csrAccess hd

end

/-- Settles O26: the rule holds of each of the six kinds of meaning. -/
theorem whatCanStopAnInstruction : Obligations.WhatCanStopAnInstruction := by
  intro i s
  have hrule := stopRule_exec i s
  refine ⟨fun e p h => ?_, fun r h => ?_⟩ <;> rw [h] at hrule <;> exact hrule

/-! ## Maps of states that an instruction does not see -/

/-- What `g` must leave alone for the instructions that read or write f registers directly (30_encoding.md R113). -/
structure FRegistersMap (i : Instr) (g : State → State) (s : State) : Prop where
  readF : ∀ r, s.readF r = (g s).readF r
  flen : s.flen = (g s).flen
  writeF : ∀ r v, complete ((g s).writeF r v) = mapNext g (complete (s.writeF r v))
  load : ∀ fmt rd rs1 imm, load i fmt rd rs1 imm (g s) = mapNext g (load i fmt rd rs1 imm s)
  store : ∀ fmt rs2 rs1 imm, store i fmt rs2 rs1 imm (g s) = mapNext g (store i fmt rs2 rs1 imm s)

/-- What `g` must leave alone for every instruction: the checks, the operand reads, and the writes, with which it
commutes. -/
structure StateMap (i : Instr) (g : State → State) (s : State) : Prop where
  legal : legal i (g s) = legal i s
  pc : (g s).pc = s.pc
  operands : SameOperands s (g s)
  fp : ∀ fmt r v, completeFp fmt r v (g s) = mapNext g (completeFp fmt r v s)
  x : ∀ r v fl, completeX r v fl (g s) = mapNext g (completeX r v fl s)
  csr : ∀ rd csr write new, csrAccess i rd csr write new (g s) = mapNext g (csrAccess i rd csr write new s)
  f : needsFRegisters i = true → Machine.legal i s = true → FRegistersMap i g s

section
variable {i : Instr} {g : State → State} {s : State}

theorem mapNext_raiseIllegal (hpc : (g s).pc = s.pc) : raiseIllegal i (g s) = mapNext g (raiseIllegal i s) := by
  simp [raiseIllegal, raise, mapNext, hpc]

theorem checked_map (hl : legal i (g s) = legal i s) (hpc : (g s).pc = s.pc) {e e' : Outcome}
    (he : legal i s = true → e' = mapNext g e) : checked i (g s) e' = mapNext g (checked i s e) := by
  unfold checked
  rw [hl]
  split
  next h => exact he h
  next => exact mapNext_raiseIllegal hpc

theorem StateMap.computed (h : StateMap i g s) {α : Type} {r r' : Option α} {k k' : α → Outcome}
    (hr : Machine.legal i s = true → r' = r) (hk : ∀ v, k' v = mapNext g (k v)) :
    computed i r' k' (g s) = mapNext g (computed i r k s) := by
  refine checked_map h.legal h.pc fun hlegal => ?_
  rw [hr hlegal]
  cases r with
  | none => exact mapNext_raiseIllegal h.pc
  | some v => exact hk v

/-- An instruction commutes with a map it does not see. -/
theorem StateMap.exec (h : StateMap i g s) : exec i (g s) = mapNext g (exec i s) := by
  cases exec_meaning i with
  | @fpResult fmt rd res hd hself hpairs hexec hflags hreads =>
    have hexec' := hexec rd
    rw [hself] at hexec'
    rw [hexec', hexec']
    exact h.computed (fun _ => (hreads s (g s) h.operands).symm) fun v => h.fp fmt rd v
  | @intResult rd res hd hself hcond hexec hflags hreads =>
    have hexec' := hexec rd
    rw [hself] at hexec'
    rw [hexec', hexec']
    exact h.computed (fun hl => (hreads s (g s) h.operands fun hneeds => (h.f hneeds hl).readF).symm)
      fun v => h.x rd v.1 v.2
  | @fWrite rd val hd hneeds hexec hreads =>
    rw [hexec, hexec]
    refine checked_map h.legal h.pc fun hl => ?_
    rw [← hreads s (g s) h.operands (h.f hneeds hl).flen]
    exact (h.f hneeds hl).writeF rd _
  | load hd hneeds hmem hexec =>
    rw [hexec, hexec]
    by_cases hl : Machine.legal i s = true
    · exact (h.f hneeds hl).load _ _ _ _
    · exact (checked_of_not_legal (h.legal.trans (Bool.eq_false_iff.2 hl))).trans
        ((mapNext_raiseIllegal h.pc).trans (congrArg _ (checked_of_not_legal (Bool.eq_false_iff.2 hl)).symm))
  | store hd hneeds hmem hexec =>
    rw [hexec, hexec]
    by_cases hl : Machine.legal i s = true
    · exact (h.f hneeds hl).store _ _ _ _
    · exact (checked_of_not_legal (h.legal.trans (Bool.eq_false_iff.2 hl))).trans
        ((mapNext_raiseIllegal h.pc).trans (congrArg _ (checked_of_not_legal (Bool.eq_false_iff.2 hl)).symm))
  | @csr rd csr write new hd hself hcond hflags hexec hreads =>
    have hexec' := hexec rd
    rw [hself] at hexec'
    rw [hexec', hexec', ← hreads s (g s) h.operands]
    exact h.csr rd csr write _

/-- A CSR access commutes with a map that its reads do not see and its writes commute with. -/
theorem csrAccess_map (hl : legal i (g s) = legal i s) (hpc : (g s).pc = s.pc)
    (hread : ∀ c, (g s).readCsr c = s.readCsr c)
    (hwrite : ∀ (write : Bool) c w r v, ((if write then (g s).writeCsr c w else g s).writeX r v).retire =
      g ((if write then s.writeCsr c w else s).writeX r v).retire) (rd : Reg) (csr : BitVec 12) (write : Bool)
    (new : XWord → XWord) : csrAccess i rd csr write new (g s) = mapNext g (csrAccess i rd csr write new s) := by
  unfold csrAccess
  split
  · rfl
  next c hc =>
    refine checked_map hl hpc fun _ => ?_
    simp only [complete, mapNext, hread, hwrite]

end

/-! ## The f registers under Zfinx -/

theorem State.withF_writeX (s : State) (f : Vector FWord 32) (r : Reg) (v : XWord) :
    (s.withF f).writeX r v = (s.writeX r v).withF f := by
  unfold State.writeX
  split <;> rfl

/-- Under Zfinx a floating-point result goes to x registers. -/
theorem State.withF_writeFp (s : State) (f : Vector FWord 32) (fmt : Fmt) (r : Reg) (v : Bits fmt)
    (hx : s.inX = true) : (s.withF f).writeFp fmt r v = (s.writeFp fmt r v).withF f := by
  have hx' : (s.withF f).inX = true := hx
  have hxlen : (s.withF f).xlen = s.xlen := rfl
  simp only [State.writeFp, hx, hx', if_true, hxlen]
  split
  · exact s.withF_writeX f r _
  · unfold State.writePair
    split
    · rfl
    · rw [State.withF_writeX, State.withF_writeX]

/-- Under Zfinx a floating-point operand comes from x registers. -/
theorem sameOperands_withF (s : State) (f : Vector FWord 32) (hx : s.inX = true) : SameOperands s (s.withF f) where
  mode _ := rfl
  x _ := rfl
  fp fmt r := by
    have hx' : (s.withF f).inX = true := hx
    simp only [State.readFp, hx, hx', if_true]
    rfl

/-- Settles O20: other f registers are a map no instruction sees, those that name f registers having no row. -/
theorem zfinxNeverTouchesFRegisters : Obligations.ZfinxNeverTouchesFRegisters := by
  intro i s f hwf hz
  have hx : s.inX = true := hz
  refine StateMap.exec (g := fun t => t.withF f)
    { legal := rfl, pc := rfl, operands := sameOperands_withF s f hx, fp := fun fmt r v => ?_, x := fun r v fl => ?_,
      csr := csrAccess_map (g := fun t => t.withF f) rfl rfl (fun _ => rfl) fun write c w r v => ?_, f := fun hneeds hl => ?_ }
  · simp only [completeFp, complete, mapNext, s.withF_writeFp f fmt r v.1 hx]
    rfl
  · simp only [completeX, complete, mapNext, s.withF_writeX f r v]
    rfl
  · have hcsr : (if write then (s.withF f).writeCsr c w else s.withF f) =
        (if write then s.writeCsr c w else s).withF f := by cases write <;> cases c <;> rfl
    rw [hcsr, State.withF_writeX]
    rfl
  · rw [legal_of_not_extHolds (extHolds_of_needsFRegisters hwf hz hneeds)] at hl
    cases hl

/-! ## FS (10_state.md R34, R35) -/

/-- The state with another FS. -/
def State.withFs (b : Bool) (s : State) : State := { s with cfg := { s.cfg with fsOn := b } }

theorem State.withFs_writeX (s : State) (b : Bool) (r : Reg) (v : XWord) :
    (s.withFs b).writeX r v = (s.writeX r v).withFs b := by
  unfold State.writeX
  split <;> rfl

theorem State.withFs_writeFp (s : State) (b : Bool) (fmt : Fmt) (r : Reg) (v : Bits fmt) :
    (s.withFs b).writeFp fmt r v = (s.writeFp fmt r v).withFs b := by
  have hx : (s.withFs b).inX = s.inX := rfl
  have hxlen : (s.withFs b).xlen = s.xlen := rfl
  simp only [State.writeFp, hx, hxlen]
  split
  · split
    · exact s.withFs_writeX b r _
    · unfold State.writePair
      split
      · rfl
      · rw [State.withFs_writeX, State.withFs_writeX]
  · rfl

/-- FS is in no read and no write of an access to memory. -/
theorem State.withFs_storedBytes (s : State) (b : Bool) (ea : XWord) (v : FWord) (n : ℕ) :
    (s.withFs b).storedBytes ea v n = s.storedBytes ea v n := by
  induction n with
  | zero => rfl
  | succ n ih => simp only [State.storedBytes, ih]; rfl

theorem State.withFs_loadBytes (s : State) (b : Bool) (ea : XWord) (n : ℕ) :
    (s.withFs b).loadBytes ea n = s.loadBytes ea n := by
  induction n with
  | zero => rfl
  | succ n ih => simp only [State.loadBytes, ih]; rfl

/-- Where FS does not decide the enable, it decides no check. -/
theorem legal_withFs (i : Instr) (s : State) (b : Bool) (hx : s.inX = true) : legal i (s.withFs b) = legal i s := by
  have hx' : (s.withFs b).inX = true := hx
  simp only [legal, State.fpEnabled, hx, hx', Bool.true_or]
  rfl

theorem load_withFs (i : Instr) (fmt : Fmt) (rd rs1 : Reg) (imm : BitVec 12) (s : State) (b : Bool)
    (hx : s.inX = true) : load i fmt rd rs1 imm (s.withFs b) = mapNext (State.withFs b) (load i fmt rd rs1 imm s) := by
  refine checked_map (legal_withFs i s b hx) rfl fun _ => ?_
  have hea : (s.withFs b).effAddr rs1 imm = s.effAddr rs1 imm := rfl
  have hmis (ea : XWord) (n : ℕ) : (s.withFs b).misalignedTrap ea n = s.misalignedTrap ea n := rfl
  have hmapped (ea : XWord) (n : ℕ) : (s.withFs b).allMapped ea n = s.allMapped ea n := rfl
  simp only [hea, hmis, hmapped, State.withFs_loadBytes]
  split_ifs <;> rfl

theorem store_withFs (i : Instr) (fmt : Fmt) (rs2 rs1 : Reg) (imm : BitVec 12) (s : State) (b : Bool)
    (hx : s.inX = true) :
    store i fmt rs2 rs1 imm (s.withFs b) = mapNext (State.withFs b) (store i fmt rs2 rs1 imm s) := by
  refine checked_map (legal_withFs i s b hx) rfl fun _ => ?_
  have hea : (s.withFs b).effAddr rs1 imm = s.effAddr rs1 imm := rfl
  have hmis (ea : XWord) (n : ℕ) : (s.withFs b).misalignedTrap ea n = s.misalignedTrap ea n := rfl
  have hmapped (ea : XWord) (n : ℕ) : (s.withFs b).allMapped ea n = s.allMapped ea n := rfl
  have htext (ea : XWord) (n : ℕ) : (s.withFs b).touchesText ea n = s.touchesText ea n := rfl
  simp only [hea, hmis, hmapped, htext, State.storeBytes, State.withFs_storedBytes]
  split_ifs <;> rfl

/-- Settles O25: without Zfinx FS Off fails the enable; under Zfinx FS is a map no instruction sees. -/
theorem fsOffDisablesEveryInstruction : Obligations.FsOffDisablesEveryInstruction := by
  refine ⟨fun i s hfs hz hk => exec_of_not_legal ?_ hk, fun i s b hz => ?_⟩
  · simp [legal, State.fpEnabled, State.inX, hfs, hz]
  · have hx : s.inX = true := hz
    refine StateMap.exec (g := State.withFs b)
      { legal := legal_withFs i s b hx, pc := rfl, operands := ⟨fun _ => rfl, fun _ => rfl, fun _ _ => rfl⟩,
        fp := fun fmt r v => ?_, x := fun r v fl => ?_,
        csr := csrAccess_map (legal_withFs i s b hx) rfl (fun c => ?_) fun write c w r v => ?_,
        f := fun _ _ => ⟨fun _ => rfl, rfl, fun _ _ => rfl, fun fmt rd rs1 imm => load_withFs i fmt rd rs1 imm s b hx,
          fun fmt rs2 rs1 imm => store_withFs i fmt rs2 rs1 imm s b hx⟩ }
    · simp only [completeFp, complete, mapNext, s.withFs_writeFp b fmt r v.1]
      rfl
    · simp only [completeX, complete, mapNext, s.withFs_writeX b r v]
      rfl
    · cases c <;> rfl
    · have hcsr : (if write then (s.withFs b).writeCsr c w else s.withFs b) =
          (if write then s.writeCsr c w else s).withFs b := by cases write <;> cases c <;> rfl
      rw [hcsr, State.withFs_writeX]
      rfl

end Sys2Proof.Machine


/-!
Writes of x0 (10_state.md R21): an instruction whose destination is x0 keeps its other effects.
-/

namespace Sys2Proof.Machine

/-- A write of an x register is a write of the x registers. -/
theorem State.writeX_eq (s : State) (r : Reg) (v : XWord) : s.writeX r v = { s with x := (s.writeX r v).x } := by
  unfold State.writeX
  split <;> rfl

theorem State.writePair_eq (s : State) (r : Reg) (v : BitVec 64) :
    s.writePair r v = { s with x := (s.writePair r v).x } := by
  unfold State.writePair
  split
  · rfl
  · rw [State.writeX_eq, State.writeX_eq]

/-- With x registers a floating-point result is a write of the x registers. -/
theorem State.writeFp_eq (s : State) (fmt : Fmt) (r : Reg) (v : Bits fmt) (hx : s.inX = true) :
    s.writeFp fmt r v = { s with x := (s.writeFp fmt r v).x } := by
  simp only [State.writeFp, hx, if_true]
  split
  · exact s.writeX_eq r _
  · exact s.writePair_eq r _

/-- Writes of an x register and of the flags, and the advance of the pc, do not get in each other's way. -/
theorem State.retire_writeX (s : State) (r : Reg) (v : XWord) : (s.writeX r v).retire = s.retire.writeX r v := by
  unfold State.writeX
  split <;> rfl

theorem State.accrue_writeX (s : State) (r : Reg) (v : XWord) (fl : FlagSet) :
    (s.writeX r v).accrue fl = (s.accrue fl).writeX r v := by
  unfold State.writeX
  split <;> rfl

/-- An effect with destination x0 changes fflags, frm and the pc alone. -/
theorem Effect.eq_of_zero {i : Instr} {s t : State} (h : Effect i s t)
    (hd : dest i = .x 0 ∨ (∃ csr, dest i = .csr 0 csr) ∨ ((∃ fmt, dest i = .fp fmt 0) ∧ s.inX = true)) :
    t = { s with fflags := t.fflags, frm := t.frm, pc := s.trunc (s.pc + 4) } := by
  cases h with
  | fp hd' =>
    obtain hd | ⟨_, hd⟩ | ⟨⟨_, hd⟩, hx⟩ := hd <;> rw [hd'] at hd <;> cases hd
    rw [State.writeFp_zero _ _ _ hx]
    rfl
  | x hd' =>
    obtain hd | ⟨_, hd⟩ | ⟨⟨_, hd⟩, hx⟩ := hd <;> rw [hd'] at hd <;> cases hd
    rfl
  | f hd' | mem hd' => obtain hd | ⟨_, hd⟩ | ⟨⟨_, hd⟩, hx⟩ := hd <;> rw [hd'] at hd <;> cases hd
  | @csr rd csr c hd' _ _ write =>
    obtain hd | ⟨_, hd⟩ | ⟨⟨_, hd⟩, hx⟩ := hd <;> rw [hd'] at hd <;> cases hd
    cases write with
    | false => rfl
    | true => cases c <;> rfl

/-- An instruction with an even destination pair has x0 as a destination too. -/
theorem RdOnlyInPairs.legal {i : Instr} (h : RdOnlyInPairs i) {r : Reg} {s : State} (hl : legal (withRd r i) s = true) :
    legal (withRd 0 i) s = true := by
  obtain ⟨ext, xlen, ps, ps', hr, h0, hps⟩ := h r
  simp only [Machine.legal, hr, h0, Conditions.pairsHold_eq_pairsOk, pairsOk, Bool.and_eq_true, Bool.or_eq_true,
    List.all_eq_true] at hl ⊢
  refine ⟨hl.1, hl.2.imp_right fun heven q hq => ?_⟩
  obtain rfl | hq := hps q hq
  · rfl
  · exact heven q hq

theorem legal_congr {i j : Instr} {s : State} (h : conditions i = conditions j) : legal i s = legal j s := by
  simp only [legal, h]

section
variable {i : Instr} {s : State}

/-- With x0 as its destination an instruction does what it does with any other, but for the x registers. -/
theorem exec_of_exec_withRd {r : Reg} {u : State} (hu : exec (withRd r i) s = .next u)
    (hd : dest i = .x 0 ∨ (∃ csr, dest i = .csr 0 csr) ∨ ((∃ fmt, dest i = .fp fmt 0) ∧ s.inX = true)) :
    ∃ t, exec i s = .next t ∧ u = { t with x := u.x } := by
  cases exec_meaning i with
  | fpResult res hd' hself hpairs hexec =>
    obtain hd | ⟨_, hd⟩ | ⟨⟨_, hd⟩, hx⟩ := hd <;> rw [hd'] at hd <;> cases hd
    have h0 := hexec 0 s
    rw [hexec] at hu
    obtain ⟨hl, v, hv, hk⟩ := computed_eq_next.1 hu
    have hl0 := hpairs.legal hl
    rw [hself] at h0 hl0
    refine ⟨_, h0.trans (computed_eq_next.2 ⟨hl0, v, hv, rfl⟩), ?_⟩
    rw [completeFp_eq_next.1 hk, State.writeFp_eq _ _ _ _ hx, State.writeFp_zero _ _ _ hx]
    rfl
  | intResult res hd' hself hcond hexec =>
    obtain hd | ⟨_, hd⟩ | ⟨⟨_, hd⟩, hx⟩ := hd <;> rw [hd'] at hd <;> cases hd
    have h0 := hexec 0 s
    rw [hexec] at hu
    obtain ⟨hl, v, hv, hk⟩ := computed_eq_next.1 hu
    rw [legal_congr (hcond r)] at hl
    rw [hself] at h0
    refine ⟨_, h0.trans (computed_eq_next.2 ⟨hl, v, hv, rfl⟩), ?_⟩
    rw [completeX_eq_next.1 hk, State.writeX_eq]
    rfl
  | fWrite _ hd' | load hd' | store hd' => obtain hd | ⟨_, hd⟩ | ⟨⟨_, hd⟩, hx⟩ := hd <;> rw [hd'] at hd <;> cases hd
  | csr new hd' hself hcond hflags hexec =>
    obtain hd | ⟨_, hd⟩ | ⟨⟨_, hd⟩, hx⟩ := hd <;> rw [hd'] at hd <;> cases hd
    have h0 := hexec 0 s
    rw [hexec] at hu
    obtain ⟨c, hc, hl, rfl⟩ := csrAccess_next hu
    rw [legal_congr (hcond r)] at hl
    rw [hself] at h0
    refine ⟨_, h0.trans (csrAccess_of_legal hc hl), ?_⟩
    rw [State.writeX_eq]
    rfl

/-- An integer result or a CSR access completes with every destination when it does with x0. -/
theorem exec_withRd_of_exec {t : State} (ht : exec i s = .next t)
    (hd : dest i = .x 0 ∨ ∃ csr, dest i = .csr 0 csr) (r : Reg) :
    ∃ v, exec (withRd r i) s = .next (t.writeX r v) := by
  cases exec_meaning i with
  | fpResult _ hd' | fWrite _ hd' | load hd' | store hd' =>
    obtain hd | ⟨_, hd⟩ := hd <;> rw [hd'] at hd <;> cases hd
  | intResult res hd' hself hcond hexec =>
    obtain hd | ⟨_, hd⟩ := hd <;> rw [hd'] at hd <;> cases hd
    rw [← hself, hexec] at ht
    obtain ⟨hl, v, hv, hk⟩ := computed_eq_next.1 ht
    rw [hself, ← legal_congr (hcond r)] at hl
    refine ⟨v.1, (hexec r s).trans (computed_eq_next.2 ⟨hl, v, hv, ?_⟩)⟩
    rw [completeX_eq_next.1 hk, completeX, complete, State.accrue_writeX, State.retire_writeX]
    rfl
  | csr new hd' hself hcond hflags hexec =>
    obtain hd | ⟨_, hd⟩ := hd <;> rw [hd'] at hd <;> cases hd
    rw [← hself, hexec] at ht
    obtain ⟨c, hc, hl, rfl⟩ := csrAccess_next ht
    rw [hself, ← legal_congr (hcond r)] at hl
    refine ⟨s.readCsr c, (hexec r s).trans ((csrAccess_of_legal hc hl).trans ?_)⟩
    rw [State.retire_writeX, State.writeX_zero]

end

/-- A conversion to an integer with destination x0 keeps its flags. -/
theorem fpToInt_zero {i : Instr} {fmt : Fmt} {y : IntFmt} {rs1 : Reg} {rm : BitVec 3} {mode : Mode} {s t : State}
    (hm : s.resolveMode rm = some mode) (h : fpToInt i fmt y 0 rs1 rm s = .next t) :
    t = { s with fflags := s.fflags ||| (fcvtInt fmt y mode (s.readFp fmt rs1)).2, pc := s.trunc (s.pc + 4) } := by
  obtain ⟨-, m, hm', r, rfl, rfl⟩ := fpToInt_next h
  obtain rfl := Option.some.inj (hm.symm.trans hm')
  rfl

/-- Settles O46: an effect on x0 is the rest of the effect, and `rd` decides nothing but where the result goes. -/
theorem zeroRegisterKeepsOtherEffects : Obligations.ZeroRegisterKeepsOtherEffects := by
  refine ⟨fun s v => ⟨rfl, rfl⟩, fun i s => ⟨fun hd => ⟨fun t ht => (exec_effect ht).eq_of_zero hd,
    fun r u hu => exec_of_exec_withRd hu hd⟩, fun hd t ht r => exec_withRd_of_exec ht hd r⟩,
    fun rs1 rs2 rm mode s t hm => ⟨fpToInt_zero hm, fpToInt_zero hm, fun h => ?_, fun h => ?_, fun h => ?_⟩⟩
  · obtain ⟨-, r, rfl, rfl⟩ := compareFp_next (i := .fltS 0 rs1 rs2) h
    rfl
  · obtain ⟨-, r, rfl, rfl⟩ := modularConvert_next (i := .fcvtmodWD 0 rs1) h
    rfl
  · obtain ⟨c, hc, -, rfl⟩ := csrAccess_next (i := .csrrw 0 2#12 rs1) (rd := 0) (csr := 2#12) (s := s) (write := true)
      (new := fun _ => s.readX rs1) h
    cases hc
    rfl

end Sys2Proof.Machine

/-!
Accesses to memory: the bytes a load reads and a store leaves, and the order of the exceptions (20_memory.md,
60_exceptions.md R519).
-/

namespace Sys2Proof.Machine

/-! ## Addresses -/

theorem State.toNat_trunc (s : State) (v : XWord) : (s.trunc v).toNat = v.toNat % 2 ^ s.xlen := by
  have hle : s.xlen ≤ 64 := by
    unfold State.xlen
    cases s.cfg.xlen <;> decide
  have hlt : v.toNat % 2 ^ s.xlen < 2 ^ 64 :=
    (Nat.mod_lt _ (Nat.two_pow_pos _)).trans_le (Nat.pow_le_pow_right (by omega) hle)
  rw [State.trunc, BitVec.toNat_setWidth, BitVec.toNat_setWidth, Nat.mod_eq_of_lt hlt]

/-- XLEN is at least 32 and at most 64 (00_scope.md R5). -/
theorem State.xlen_bounds (s : State) : 32 ≤ s.xlen ∧ s.xlen ≤ 64 := by
  unfold State.xlen
  cases s.cfg.xlen <;> decide

/-- The address of byte `k`, as a number (20_memory.md R62). -/
theorem State.byteAddr_eq (s : State) (ea : XWord) (k : ℕ) : s.byteAddr ea k = (ea.toNat + k) % 2 ^ s.xlen := by
  have hdvd : 2 ^ s.xlen ∣ 2 ^ 64 := Nat.pow_dvd_pow 2 s.xlen_bounds.2
  rw [State.byteAddr, State.toNat_trunc, BitVec.toNat_add, BitVec.toNat_ofNat, Nat.mod_mod_of_dvd _ hdvd, Nat.add_mod,
    Nat.mod_mod_of_dvd _ hdvd, ← Nat.add_mod]

/-- The bytes of one access stand at different addresses. -/
theorem State.byteAddr_inj (s : State) (ea : XWord) {j k : ℕ} (hj : j < 16) (hk : k < 16)
    (h : s.byteAddr ea j = s.byteAddr ea k) : j = k := by
  have hwide : 2 ^ 32 ≤ 2 ^ s.xlen := Nat.pow_le_pow_right (by omega) s.xlen_bounds.1
  rw [State.byteAddr_eq, State.byteAddr_eq] at h
  have hmod : j ≡ k [MOD 2 ^ s.xlen] := Nat.ModEq.add_left_cancel' ea.toNat h
  exact hmod.eq_of_lt_of_lt (by omega) (by omega)

section
variable {s : State} {ea : XWord} {n : ℕ}

theorem allMapped_iff : s.allMapped ea n = true ↔ ∀ k < n, s.mapped (s.byteAddr ea k) = true := by
  simp [State.allMapped]

theorem touchesText_iff : s.touchesText ea n = true ↔
    ∃ k < n, s.cfg.progBase ≤ s.byteAddr ea k ∧ s.byteAddr ea k < s.cfg.progEnd := by
  simp [State.touchesText]

theorem misalignedTrap_eq_false (h : ea.toNat % n = 0 ∨ s.cfg.misaligned = .invisible) :
    s.misalignedTrap ea n = false := by
  obtain h | h := h <;> simp [State.misalignedTrap, h]

theorem misalignedTrap_eq_true (hm : s.cfg.misaligned = .trap) (h : ea.toNat % n ≠ 0) :
    s.misalignedTrap ea n = true := by
  simp [State.misalignedTrap, hm, h]

end

/-! ## Bytes -/

/-- Bit `b` of a load is bit `b % 8` of byte `b / 8` (20_memory.md R62). -/
theorem getLsbD_loadBytes (s : State) (ea : XWord) {n : ℕ} (hn : n ≤ 16) (b : ℕ) :
    (s.loadBytes ea n).getLsbD b =
      (decide (b < 8 * n) && (memRead s.mem (s.byteAddr ea (b / 8))).getLsbD (b % 8)) := by
  induction n with
  | zero => simp [State.loadBytes]
  | succ n ih =>
    rw [State.loadBytes, BitVec.getLsbD_or, ih (by omega), BitVec.getLsbD_shiftLeft, BitVec.getLsbD_setWidth]
    obtain hlow | ⟨hge, hlt⟩ | hhigh : b < 8 * n ∨ (8 * n ≤ b ∧ b < 8 * (n + 1)) ∨ 8 * (n + 1) ≤ b := by omega
    · simp [hlow, show b < 8 * (n + 1) by omega]
    · have hdiv : b / 8 = n := by omega
      have hmod : b % 8 = b - 8 * n := by omega
      simp [hge.not_gt, hlt, hdiv, hmod, show b < 128 by omega, show b - 8 * n < 128 by omega]
    · rw [BitVec.getLsbD_of_ge _ (b - 8 * n) (by omega)]
      simp [show ¬ b < 8 * n by omega, show ¬ b < 8 * (n + 1) by omega]

/-- The byte of a canonical memory that a store has written last (20_memory.md R62). -/
theorem memRead_storedBytes (s : State) (ea : XWord) (v : FWord) {n k : ℕ} (hwf : Memory.wf s.mem = true)
    (hn : n ≤ 16) (hk : k < n) : memRead (s.storedBytes ea v n) (s.byteAddr ea k) = v.extractLsb' (8 * k) 8 := by
  induction n with
  | zero => omega
  | succ n ih =>
    rw [State.storedBytes, memRead_memWrite _ _ _ _ (memWf_storedBytes s ea v n hwf)]
    by_cases hkn : k = n
    · rw [if_pos (by rw [hkn]), hkn]
    · rw [if_neg fun h => hkn (s.byteAddr_inj ea (by omega) (by omega) h)]
      exact ih (by omega) (by omega)

theorem Fmt.width_eq (fmt : Fmt) : fmt.width = 8 * (fmt.width / 8) := by cases fmt <;> rfl

theorem Fmt.bytes_le (fmt : Fmt) : fmt.width / 8 ≤ 16 := by cases fmt <;> decide

/-- A byte of a boxed value below its format's width is the value's. -/
theorem extractLsb'_box {flen : ℕ} {fmt : Fmt} (hflen : flen ≤ 128) (hw : fmt.width ≤ flen) (v : FWord) {k : ℕ}
    (hk : k < fmt.width / 8) :
    (box flen fmt (v.setWidth fmt.width)).extractLsb' (8 * k) 8 = v.extractLsb' (8 * k) 8 := by
  have hwidth := fmt.width_eq
  apply BitVec.eq_of_getLsbD_eq
  intro b hb
  have hlt : 8 * k + b < fmt.width := by omega
  simp [getLsbD_box hflen hw, hb, hlt]

theorem extractLsb'_loadBytes (s : State) (ea : XWord) {n k : ℕ} (hn : n ≤ 16) (hk : k < n) :
    (s.loadBytes ea n).extractLsb' (8 * k) 8 = memRead s.mem (s.byteAddr ea k) := by
  apply BitVec.eq_of_getLsbD_eq
  intro b hb
  rw [BitVec.getLsbD_extractLsb', getLsbD_loadBytes s ea hn, show (8 * k + b) / 8 = k by omega,
    show (8 * k + b) % 8 = b by omega]
  simp [hb, show 8 * k + b < 8 * n by omega]

/-! ## Loads and stores by the outcome of their checks -/

section
variable {i : Instr} {s : State} {fmt : Fmt} {rd rs1 rs2 : Reg} {imm : BitVec 12}

theorem load_of_misaligned (h : legal i s = true) (hmis : s.misalignedTrap (s.effAddr rs1 imm) (fmt.width / 8) = true) :
    load i fmt rd rs1 imm s = raise (.loadAddressMisaligned (s.effAddr rs1 imm)) s :=
  (checked_of_legal h).trans (if_pos hmis)

theorem load_of_aligned (h : legal i s = true) (hmis : s.misalignedTrap (s.effAddr rs1 imm) (fmt.width / 8) = false) :
    load i fmt rd rs1 imm s =
      if s.allMapped (s.effAddr rs1 imm) (fmt.width / 8) then
        .next (fDone s rd (box s.flen fmt ((s.loadBytes (s.effAddr rs1 imm) (fmt.width / 8)).setWidth fmt.width)))
      else raise (.loadAccessFault (s.effAddr rs1 imm)) s :=
  (checked_of_legal h).trans (if_neg (by simp [hmis]))

theorem store_of_misaligned (h : legal i s = true)
    (hmis : s.misalignedTrap (s.effAddr rs1 imm) (fmt.width / 8) = true) :
    store i fmt rs2 rs1 imm s = raise (.storeAddressMisaligned (s.effAddr rs1 imm)) s :=
  (checked_of_legal h).trans (if_pos hmis)

theorem store_of_aligned (h : legal i s = true) (hmis : s.misalignedTrap (s.effAddr rs1 imm) (fmt.width / 8) = false) :
    store i fmt rs2 rs1 imm s =
      if s.allMapped (s.effAddr rs1 imm) (fmt.width / 8) then
        if s.touchesText (s.effAddr rs1 imm) (fmt.width / 8) then .refused (.storeToProgramText (s.effAddr rs1 imm))
        else .next (s.storeBytes (s.effAddr rs1 imm) (fmt.width / 8) (s.readF rs2)).retire
      else raise (.storeAccessFault (s.effAddr rs1 imm)) s :=
  (checked_of_legal h).trans (if_neg (by simp [hmis]))

/-- An allowed load leaves the bytes at its address in the register, and ones above them (20_memory.md R64). -/
theorem load_completes (h : legal i s = true) (hw : fmt.width ≤ s.flen)
    (halign : (s.effAddr rs1 imm).toNat % (fmt.width / 8) = 0 ∨ s.cfg.misaligned = .invisible)
    (hmapped : ∀ k < fmt.width / 8, s.mapped (s.byteAddr (s.effAddr rs1 imm) k) = true) :
    ∃ v : FWord, load i fmt rd rs1 imm s = .next (fDone s rd v) ∧
      (∀ k < fmt.width / 8, ((fDone s rd v).readF rd).extractLsb' (8 * k) 8 =
        memRead s.mem (s.byteAddr (s.effAddr rs1 imm) k)) ∧
      (∀ b, fmt.width ≤ b → b < s.flen → ((fDone s rd v).readF rd).getLsbD b = true) := by
  have hflen := flen_le s.flen_mem
  have hread (v : Bits fmt) : (fDone s rd (box s.flen fmt v)).readF rd = box s.flen fmt v := by
    have hretire : (fDone s rd (box s.flen fmt v)).readF rd = (s.writeF rd (box s.flen fmt v)).readF rd := rfl
    rw [hretire, State.readF_writeF_self, truncF_box hw, truncF_box hw]
  refine ⟨_, (load_of_aligned h (misalignedTrap_eq_false halign)).trans (if_pos (allMapped_iff.2 hmapped)),
    fun k hk => ?_, fun b hb hb' => ?_⟩
  · rw [hread, extractLsb'_box hflen hw _ hk, extractLsb'_loadBytes s _ fmt.bytes_le hk]
  · rw [hread, getLsbD_box hflen hw]
    simp [hb.not_gt, hb']

/-- An allowed store leaves the low bytes of the register at its address (20_memory.md R64). -/
theorem store_completes (h : legal i s = true) (hwf : Memory.wf s.mem = true)
    (halign : (s.effAddr rs1 imm).toNat % (fmt.width / 8) = 0 ∨ s.cfg.misaligned = .invisible)
    (hmapped : ∀ k < fmt.width / 8, s.mapped (s.byteAddr (s.effAddr rs1 imm) k) = true)
    (htext : ∀ k < fmt.width / 8, s.byteAddr (s.effAddr rs1 imm) k < s.cfg.progBase ∨
      s.cfg.progEnd ≤ s.byteAddr (s.effAddr rs1 imm) k) :
    ∃ m, store i fmt rs2 rs1 imm s = .next { s with mem := m, pc := s.trunc (s.pc + 4) } ∧
      ∀ k < fmt.width / 8, memRead m (s.byteAddr (s.effAddr rs1 imm) k) = (s.readF rs2).extractLsb' (8 * k) 8 := by
  have houtside : ¬ s.touchesText (s.effAddr rs1 imm) (fmt.width / 8) = true := by
    rw [touchesText_iff]
    rintro ⟨k, hk, hge, hlt⟩
    have := htext k hk
    omega
  exact ⟨_, (store_of_aligned h (misalignedTrap_eq_false halign)).trans
    ((if_pos (allMapped_iff.2 hmapped)).trans (if_neg houtside)),
    fun k hk => memRead_storedBytes s _ _ hwf fmt.bytes_le hk⟩

/-- The exceptions of a load in their order (60_exceptions.md R519). -/
theorem load_raises (h : legal i s = true) :
    (s.cfg.misaligned = .trap → (s.effAddr rs1 imm).toNat % (fmt.width / 8) ≠ 0 →
      load i fmt rd rs1 imm s = .fault (.trap (.loadAddressMisaligned (s.effAddr rs1 imm)) s.pc)) ∧
    (((s.effAddr rs1 imm).toNat % (fmt.width / 8) = 0 ∨ s.cfg.misaligned = .invisible) →
      (∃ k < fmt.width / 8, s.mapped (s.byteAddr (s.effAddr rs1 imm) k) = false) →
      load i fmt rd rs1 imm s = .fault (.trap (.loadAccessFault (s.effAddr rs1 imm)) s.pc)) := by
  refine ⟨fun hm hmis => load_of_misaligned h (misalignedTrap_eq_true hm hmis), fun halign ⟨k, hk, hmissing⟩ => ?_⟩
  refine (load_of_aligned h (misalignedTrap_eq_false halign)).trans (if_neg fun hall => ?_)
  simp [allMapped_iff.1 hall k hk] at hmissing

/-- The exceptions of a store in their order, then the refusal (60_exceptions.md R519, 20_memory.md R74). -/
theorem store_raises (h : legal i s = true) :
    (s.cfg.misaligned = .trap → (s.effAddr rs1 imm).toNat % (fmt.width / 8) ≠ 0 →
      store i fmt rs2 rs1 imm s = .fault (.trap (.storeAddressMisaligned (s.effAddr rs1 imm)) s.pc)) ∧
    (((s.effAddr rs1 imm).toNat % (fmt.width / 8) = 0 ∨ s.cfg.misaligned = .invisible) →
      (∃ k < fmt.width / 8, s.mapped (s.byteAddr (s.effAddr rs1 imm) k) = false) →
      store i fmt rs2 rs1 imm s = .fault (.trap (.storeAccessFault (s.effAddr rs1 imm)) s.pc)) ∧
    (((s.effAddr rs1 imm).toNat % (fmt.width / 8) = 0 ∨ s.cfg.misaligned = .invisible) →
      (∀ k < fmt.width / 8, s.mapped (s.byteAddr (s.effAddr rs1 imm) k) = true) →
      (∃ k < fmt.width / 8, s.cfg.progBase ≤ s.byteAddr (s.effAddr rs1 imm) k ∧
        s.byteAddr (s.effAddr rs1 imm) k < s.cfg.progEnd) →
      store i fmt rs2 rs1 imm s = .refused (.storeToProgramText (s.effAddr rs1 imm))) := by
  refine ⟨fun hm hmis => store_of_misaligned h (misalignedTrap_eq_true hm hmis), fun halign ⟨k, hk, hmissing⟩ => ?_,
    fun halign hmapped htext => ?_⟩
  · refine (store_of_aligned h (misalignedTrap_eq_false halign)).trans (if_neg fun hall => ?_)
    simp [allMapped_iff.1 hall k hk] at hmissing
  · exact (store_of_aligned h (misalignedTrap_eq_false halign)).trans
      ((if_pos (allMapped_iff.2 hmapped)).trans (if_pos (touchesText_iff.2 htext)))

/-- A store and a load of the whole register restore it, whatever it held (20_memory.md R64). -/
theorem readF_load_store {j : Instr} {q r : Reg} {t u : State} (hw : fmt.width = s.flen)
    (hwf : Memory.wf s.mem = true) (ht : store i fmt r rs1 imm s = .next t) (hu : load j fmt q rs1 imm t = .next u) :
    u.readF q = s.readF r := by
  obtain ⟨-, -, -, -, rfl⟩ := store_next ht
  obtain ⟨-, -, -, rfl⟩ := load_next hu
  set t := (s.storeBytes (s.effAddr rs1 imm) (fmt.width / 8) (s.readF r)).retire with ht'
  have hflen := flen_le s.flen_mem
  have hflen' : t.flen = s.flen := rfl
  have hea : t.effAddr rs1 imm = s.effAddr rs1 imm := rfl
  have haddr (k : ℕ) : t.byteAddr (s.effAddr rs1 imm) k = s.byteAddr (s.effAddr rs1 imm) k := rfl
  have hmem : t.mem = s.storedBytes (s.effAddr rs1 imm) (s.readF r) (fmt.width / 8) := rfl
  have hretire (v : FWord) : (t.writeF q v).retire.readF q = (t.writeF q v).readF q := rfl
  rw [hretire, State.readF_writeF_self, truncF_box (by rw [hw, hflen']), truncF_box (by rw [hw, hflen']), hflen',
    box_eq_setWidth hflen hw, hea]
  have hbytes := fmt.width_eq
  apply BitVec.eq_of_getLsbD_eq
  intro b hb
  rw [BitVec.getLsbD_setWidth, BitVec.getLsbD_setWidth, getLsbD_loadBytes t _ fmt.bytes_le, haddr, hmem]
  by_cases hlt : b < fmt.width
  · rw [memRead_storedBytes s _ _ hwf fmt.bytes_le (by omega : b / 8 < fmt.width / 8), BitVec.getLsbD_extractLsb',
      show 8 * (b / 8) + b % 8 = b by omega]
    simp [hb, hlt, show b < 8 * (fmt.width / 8) by omega, show b % 8 < 8 by omega]
  · rw [hw] at hlt
    simp [hw, hlt, State.readF, State.truncF]

end

/-! ## The eight instructions -/

theorem flen_of_d {s : State} (h : s.cfg.ext.d = true) : 64 ≤ s.flen := by
  simp only [State.flen, h, if_true]
  split <;> decide

theorem flen_of_q {s : State} (h : s.cfg.ext.q = true) : 128 ≤ s.flen := by simp [State.flen, h]

theorem flen_ge (s : State) : 32 ≤ s.flen := by
  have := s.flen_mem
  simp only [List.mem_cons, List.not_mem_nil, or_false] at this
  omega

/-- Settles O27: each load by its format. -/
theorem loadsCompleteWithTheirBytes : Obligations.LoadsCompleteWithTheirBytes := by
  intro rd rs1 imm s hen ea completes
  refine ⟨fun hf => ?_, fun hd => ?_, fun hq => ?_, fun hh => ?_⟩
  · exact load_completes (fmt := .s) (legal_of hen (extHolds_f hf) rfl (pairsOk_nil s)) (flen_ge s)
  · exact load_completes (fmt := .d) (legal_of hen (extHolds_d hd) rfl (pairsOk_nil s)) (flen_of_d hd)
  · exact load_completes (fmt := .q) (legal_of hen (extHolds_quad hq) rfl (pairsOk_nil s)) (flen_of_q hq)
  · exact load_completes (fmt := .h) (legal_of hen (extHolds_halfTransfer hh) rfl (pairsOk_nil s))
      ((by decide : Fmt.h.width ≤ 32).trans (flen_ge s))

/-- Settles O28: each store by its format. -/
theorem storesCompleteWithTheirBytes : Obligations.StoresCompleteWithTheirBytes := by
  intro rs2 rs1 imm s hen hwf ea completes
  refine ⟨fun hf => ?_, fun hd => ?_, fun hq => ?_, fun hh => ?_⟩
  · exact store_completes (fmt := .s) (legal_of hen (extHolds_f hf) rfl (pairsOk_nil s)) hwf
  · exact store_completes (fmt := .d) (legal_of hen (extHolds_d hd) rfl (pairsOk_nil s)) hwf
  · exact store_completes (fmt := .q) (legal_of hen (extHolds_quad hq) rfl (pairsOk_nil s)) hwf
  · exact store_completes (fmt := .h) (legal_of hen (extHolds_halfTransfer hh) rfl (pairsOk_nil s)) hwf

/-- Settles O29: the checks in their order, for each of the eight instructions. -/
theorem addressExceptions : Obligations.AddressExceptions := by
  intro rd rs2 rs1 imm s hen ea raisesLoad raisesStore
  refine ⟨fun hf => ?_, fun hd => ?_, fun hq => ?_, fun hh => ?_, fun hf => ?_, fun hd => ?_, fun hq => ?_, fun hh => ?_⟩
  · exact load_raises (fmt := .s) (legal_of hen (extHolds_f hf) rfl (pairsOk_nil s))
  · exact load_raises (fmt := .d) (legal_of hen (extHolds_d hd) rfl (pairsOk_nil s))
  · exact load_raises (fmt := .q) (legal_of hen (extHolds_quad hq) rfl (pairsOk_nil s))
  · exact load_raises (fmt := .h) (legal_of hen (extHolds_halfTransfer hh) rfl (pairsOk_nil s))
  · exact store_raises (fmt := .s) (legal_of hen (extHolds_f hf) rfl (pairsOk_nil s))
  · exact store_raises (fmt := .d) (legal_of hen (extHolds_d hd) rfl (pairsOk_nil s))
  · exact store_raises (fmt := .q) (legal_of hen (extHolds_quad hq) rfl (pairsOk_nil s))
  · exact store_raises (fmt := .h) (legal_of hen (extHolds_halfTransfer hh) rfl (pairsOk_nil s))

/-- Settles O30: the bytes stored are the bytes loaded, and they are the whole register. -/
theorem storeThenLoadRestoresRegister : Obligations.StoreThenLoadRestoresRegister := by
  intro q r rs1 imm s t u hwf
  exact ⟨fun hflen ht hu => readF_load_store (fmt := .d) hflen.symm hwf ht hu,
    fun hflen ht hu => readF_load_store (fmt := .q) hflen.symm hwf ht hu⟩

end Sys2Proof.Machine


/-!
Whole steps: the word that runs, the faults of the fetch, and the invariant of the machine (60_exceptions.md section 2,
20_memory.md sections 1, 5 and 8).
-/

namespace Sys2Proof.Machine

/-! ## Steps -/

/-- A step that goes on stays at PROG_END or has run an instruction. -/
theorem step_eq_next {s t : State} (h : step s = .next t) : t = s ∨ ∃ i, exec i s = .next t := by
  unfold step at h
  split_ifs at h
  · exact .inl (Host.Outcome.next.inj h).symm
  · cases hdecode : decode (fetchWord s) with
    | instr i =>
      rw [hdecode] at h
      exact .inr ⟨i, h⟩
    | illegal w | outOfScope w =>
      rw [hdecode] at h
      cases h
  · cases h

/-- Settles O4: the fetched word is the little-endian word at the pc. -/
theorem stepRunsDecodedInstruction : Obligations.StepRunsDecodedInstruction := by
  intro s i hwf hpc hend hmem hdecode
  have hword : decode (fetchWord s) = .instr i := hdecode
  rw [step_eq_perform hwf hpc hend hmem, hword]
  rfl

/-- A fault of a step is not the one that R520 never raises. -/
theorem step_ne_instructionAddressMisaligned (s : State) (p q : XWord) :
    step s ≠ .fault (.trap (.instructionAddressMisaligned p) q) := by
  intro h
  unfold step at h
  split_ifs at h
  · cases hdecode : decode (fetchWord s) with
    | instr i =>
      rw [hdecode] at h
      have hrule := stopRule_exec i s
      rw [show exec i s = _ from h] at hrule
      obtain hrule | ⟨fmt, rs1, imm, -, hload, hstore⟩ := hrule
      · cases hrule
      · cases hi : isStore i with
        | false => obtain he | he := hload hi <;> cases he
        | true => obtain he | he := hstore hi <;> cases he
    | illegal w | outOfScope w =>
      rw [hdecode] at h
      cases h
  · cases h

/-- Settles O5: the fetch looks at its four bytes before anything else can raise. -/
theorem fetchOutsideMemoryFaults : Obligations.FetchOutsideMemoryFaults := by
  refine ⟨fun s k hwf hpc hend hk hmissing => ?_, step_ne_instructionAddressMisaligned⟩
  have hfetch : fetchMapped s = false := by
    rw [fetchMapped, ← Bool.not_eq_true, allMapped_iff]
    intro hall
    simp [hall k hk] at hmissing
  simp [step, hwf, pcAligned, hpc, isFinal, hend, hfetch, raise]

/-! ## A word placed at the pc (log 7) -/

theorem State.space_eq (s : State) : s.cfg.xlen.space = 2 ^ s.xlen := by
  unfold State.xlen
  cases s.cfg.xlen <;> rfl

theorem four_dvd_space (s : State) : 4 ∣ 2 ^ s.xlen := pow_dvd_pow 2 ((by decide : 2 ≤ 32).trans s.xlen_bounds.1)

/-- A canonical memory holds the four bytes placed in it. -/
theorem memRead_placeBytes {m : List Host.Cell} (hwf : Memory.wf m = true) (a : ℕ) (w : Word) :
    wordOfBytes (memRead (placeBytes m a w) a) (memRead (placeBytes m a w) (a + 1)) (memRead (placeBytes m a w) (a + 2))
      (memRead (placeBytes m a w) (a + 3)) = w := by
  have hwf1 := memWf_memWrite m a (w.extractLsb' 0 8) hwf
  have hwf2 := memWf_memWrite _ (a + 1) (w.extractLsb' 8 8) hwf1
  have hwf3 := memWf_memWrite _ (a + 2) (w.extractLsb' 16 8) hwf2
  have hread (b : ℕ) : memRead (placeBytes m a w) b = if b = a + 3 then w.extractLsb' 24 8
      else if b = a + 2 then w.extractLsb' 16 8 else if b = a + 1 then w.extractLsb' 8 8
      else if b = a then w.extractLsb' 0 8 else memRead m b := by
    rw [placeBytes, memRead_memWrite _ _ _ _ hwf3, memRead_memWrite _ _ _ _ hwf2, memRead_memWrite _ _ _ _ hwf1,
      memRead_memWrite _ _ _ _ hwf]
  simp only [hread, wordOfBytes, Nat.left_eq_add, Nat.add_left_cancel_iff, Nat.reduceEqDiff, if_false, if_true,
    OfNat.ofNat_ne_zero, one_ne_zero]
  have high : w.extractLsb' 24 8 ++ w.extractLsb' 16 8 = w.extractLsb' 16 16 :=
    BitVec.extractLsb'_append_extractLsb'_eq_extractLsb' rfl
  have middle : w.extractLsb' 16 16 ++ w.extractLsb' 8 8 = w.extractLsb' 8 24 :=
    BitVec.extractLsb'_append_extractLsb'_eq_extractLsb' rfl
  have low : w.extractLsb' 8 24 ++ w.extractLsb' 0 8 = w.extractLsb' 0 32 :=
    BitVec.extractLsb'_append_extractLsb'_eq_extractLsb' rfl
  rw [high, middle]
  exact low.trans BitVec.extractLsb'_eq_self

section
variable {s : State}

/-- An aligned pc is at least four below the end of the address space. -/
theorem pc_add_four_le (hpc : s.trunc s.pc = s.pc) (halign : s.pc.toNat % 4 = 0) : s.pc.toNat + 4 ≤ 2 ^ s.xlen := by
  have hlt : s.pc.toNat < 2 ^ s.xlen := by
    rw [← hpc, State.toNat_trunc]
    exact Nat.mod_lt _ (Nat.two_pow_pos _)
  have hdvd := four_dvd_space s
  omega

theorem byteAddr_pc (hpc : s.trunc s.pc = s.pc) (halign : s.pc.toNat % 4 = 0) {k : ℕ} (hk : k < 4) :
    s.byteAddr s.pc k = s.pc.toNat + k := by
  have := pc_add_four_le hpc halign
  rw [State.byteAddr_eq, Nat.mod_eq_of_lt (by omega)]

variable (w : Word)

theorem placeWord_wf (hwf : s.cfg.wf = true) (hpc : s.trunc s.pc = s.pc) (halign : s.pc.toNat % 4 = 0) :
    (placeWord s w).cfg.wf = true := by
  have hend := pc_add_four_le hpc halign
  have hspace : (2 : ℕ) ^ 32 ≤ 2 ^ s.xlen := Nat.pow_le_pow_right (by omega) s.xlen_bounds.1
  simp only [Config.wf, Bool.and_eq_true] at hwf ⊢
  refine ⟨hwf.1, ?_⟩
  have hxlen : (placeWord s w).cfg.xlen.space = 2 ^ s.xlen := s.space_eq
  have hbase : (placeWord s w).cfg.progBase = s.pc.toNat := rfl
  have hprogEnd : (placeWord s w).cfg.progEnd = s.pc.toNat + 4 := rfl
  simp only [Config.textWf, hxlen, hbase, hprogEnd, Bool.and_eq_true, beq_iff_eq, decide_eq_true_eq]
  omega

theorem mapped_placeWord (hpc : s.trunc s.pc = s.pc) (halign : s.pc.toNat % 4 = 0) {k : ℕ} (hk : k < 4) :
    (placeWord s w).mapped ((placeWord s w).byteAddr s.pc k) = true := by
  have haddr : (placeWord s w).byteAddr s.pc k = s.byteAddr s.pc k := rfl
  have hxlen : (placeWord s w).xlen = s.xlen := rfl
  have hregions : (placeWord s w).cfg.regions =
      if s.allMapped s.pc 4 then s.cfg.regions else ⟨s.pc.toNat, 4⟩ :: s.cfg.regions := rfl
  rw [haddr, State.mapped, hxlen, hregions]
  split
  next hall => exact allMapped_iff.1 hall k hk
  next =>
    have hend := pc_add_four_le hpc halign
    rw [byteAddr_pc hpc halign hk]
    have hin : inRegion ⟨s.pc.toNat, 4⟩ (s.pc.toNat + k) = true := by simp [inRegion, hk]
    simp only [List.any_cons, hin, Bool.true_or, Bool.and_true, decide_eq_true_eq]
    omega

theorem fetchWord_placeWord (hmem : Memory.wf s.mem = true) (hpc : s.trunc s.pc = s.pc)
    (halign : s.pc.toNat % 4 = 0) : fetchWord (placeWord s w) = w := by
  have haddr {k : ℕ} (hk : k < 4) : (placeWord s w).byteAddr (placeWord s w).pc k = s.pc.toNat + k :=
    byteAddr_pc hpc halign hk
  rw [fetchWord, haddr (by omega), haddr (by omega), haddr (by omega), haddr (by omega)]
  exact memRead_placeBytes hmem _ w

/-- The step of the state with a word placed at the pc performs that word. -/
theorem step_placeWord (hwf : s.cfg.wf = true) (hmem : Memory.wf s.mem = true) (hpc : s.trunc s.pc = s.pc)
    (halign : s.pc.toNat % 4 = 0) : step (placeWord s w) = perform (decode w) (placeWord s w) := by
  have hend := pc_add_four_le hpc halign
  have hwide : (2 : ℕ) ^ 32 ≤ 2 ^ s.xlen := Nat.pow_le_pow_right (by omega) s.xlen_bounds.1
  have hfinal : s.pc.toNat ≠ (s.pc.toNat + 4) % 2 ^ s.xlen := by
    obtain hlt | heq := hend.lt_or_eq
    · rw [Nat.mod_eq_of_lt hlt]
      omega
    · rw [heq, Nat.mod_self]
      omega
  have hstep := step_eq_perform (s := placeWord s w) (placeWord_wf w hwf hpc halign) halign hfinal
    fun k hk => mapped_placeWord w hpc halign hk
  rwa [fetchWord_placeWord w hmem hpc halign] at hstep

end

/-- Settles O8: the placed word is the one fetched, and it decodes to the instruction (O1). -/
theorem placedInstructionIsRun : Obligations.PlacedInstructionIsRun := by
  intro s i hwf hmem hpc halign
  have hword : s.withFetchWord 32 (encode i).toNat = placeWord s (encode i) := by
    have hofNat : BitVec.ofNat 32 ((encode i).toNat % 2 ^ min 32 32) = encode i := by
      rw [min_self, Nat.mod_eq_of_lt (encode i).isLt, BitVec.ofNat_toNat, BitVec.setWidth_eq]
    rw [State.withFetchWord, hofNat]
  rw [hword, step_placeWord _ hwf hmem hpc halign, decodeEncodeEveryInstruction i]
  rfl

/-! ## The invariant -/

@[simp] theorem State.truncF_truncF (s : State) (v : FWord) : s.truncF (s.truncF v) = s.truncF v := by
  have hflen := flen_le s.flen_mem
  apply BitVec.eq_of_getLsbD_eq
  intro b hb
  simp [State.truncF, hb]

@[simp] theorem State.trunc_zero (s : State) : s.trunc 0#64 = 0#64 := by simp [State.trunc]

/-- A written memory lists no address but the written one and those it listed before. -/
theorem mem_memWrite {m : List Host.Cell} {a : ℕ} {v : Byte} {c : Host.Cell} (h : c ∈ memWrite m a v) :
    c.1 = a ∨ c ∈ m := by
  induction m with
  | nil =>
    simp only [memWrite] at h
    split at h
    · cases h
    · exact .inl (by rw [List.mem_singleton.1 h])
  | cons d m ih =>
    obtain ⟨b, u⟩ := d
    simp only [memWrite] at h
    split_ifs at h
    · exact .inr h
    · exact (List.mem_cons.1 h).imp (fun h => by rw [h]) id
    · exact .inr (List.mem_cons_of_mem _ h)
    · exact (List.mem_cons.1 h).imp (fun h => by rw [h]) (List.mem_cons_of_mem _)
    · obtain rfl | h := List.mem_cons.1 h
      · exact .inr List.mem_cons_self
      · exact (ih h).imp_right (List.mem_cons_of_mem _)

theorem mem_storedBytes {s : State} {ea : XWord} {v : FWord} {n : ℕ} {c : Host.Cell} (h : c ∈ s.storedBytes ea v n) :
    (∃ k < n, c.1 = s.byteAddr ea k) ∨ c ∈ s.mem := by
  induction n with
  | zero => exact .inr h
  | succ n ih =>
    obtain h | h := mem_memWrite h
    · exact .inl ⟨n, n.lt_succ_self, h⟩
    · exact (ih h).imp_left fun ⟨k, hk, hc⟩ => ⟨k, hk.trans n.lt_succ_self, hc⟩

namespace State.Inv

variable {s : State}

theorem accrue (h : s.Inv) (fl : FlagSet) : (s.accrue fl).Inv :=
  ⟨h.cfgWf, h.memWf, h.memMapped, h.x0, h.xWidth, h.fWidth, h.pcWidth, h.pcAligned⟩

theorem writeCsr (h : s.Inv) (c : Csr) (v : XWord) : (s.writeCsr c v).Inv := by
  cases c <;> exact ⟨h.cfgWf, h.memWf, h.memMapped, h.x0, h.xWidth, h.fWidth, h.pcWidth, h.pcAligned⟩

theorem retire (h : s.Inv) : s.retire.Inv := by
  refine ⟨h.cfgWf, h.memWf, h.memMapped, h.x0, h.xWidth, h.fWidth, s.trunc_trunc _, ?_⟩
  have halign : s.pc.toNat % 4 = 0 := beq_iff_eq.1 h.pcAligned
  rw [Machine.pcAligned, beq_iff_eq, State.retire_pc, State.toNat_trunc, Nat.mod_mod_of_dvd _ (four_dvd_space s),
    BitVec.toNat_add, Nat.mod_mod_of_dvd _ (by decide)]
  simpa using halign

theorem writeX (h : s.Inv) (r : Reg) (v : XWord) : (s.writeX r v).Inv := by
  by_cases hr : r = 0
  · rw [hr]
    exact h
  have hx := s.writeX_x v hr
  refine ⟨by simpa using h.cfgWf, by simpa using h.memWf, ?_, ?_, fun q => ?_, fun q => ?_, ?_, ?_⟩
  · simpa [State.mapped, State.xlen_congr (s.writeX_cfg r v)] using h.memMapped
  · exact (s.writeX_x_of_ne (q := 0) v (Ne.symm hr)).trans h.x0
  · rw [State.trunc_congr (s.writeX_cfg r v)]
    by_cases hq : q = r
    · subst hq
      simp [hx]
    · rw [State.writeX_x_of_ne s v hq]
      exact h.xWidth q
  · rw [State.truncF_congr (s.writeX_cfg r v)]
    simpa using h.fWidth q
  · rw [State.trunc_congr (s.writeX_cfg r v), State.writeX_pc]
    exact h.pcWidth
  · simpa [Machine.pcAligned] using h.pcAligned

theorem writePair (h : s.Inv) (r : Reg) (v : BitVec 64) : (s.writePair r v).Inv := by
  unfold State.writePair
  split
  · exact h
  · exact (h.writeX r _).writeX (r + 1) _

theorem writeF (h : s.Inv) (r : Reg) (v : FWord) : (s.writeF r v).Inv := by
  refine ⟨h.cfgWf, h.memWf, h.memMapped, h.x0, h.xWidth, fun q => ?_, h.pcWidth, h.pcAligned⟩
  rw [State.truncF_congr (s.writeF_cfg r v)]
  by_cases hq : q = r
  · subst hq
    simp
  · rw [State.writeF_f_of_ne s v hq]
    exact h.fWidth q

theorem writeFp (h : s.Inv) (fmt : Fmt) (r : Reg) (v : Bits fmt) : (s.writeFp fmt r v).Inv := by
  unfold State.writeFp
  split_ifs
  · exact h.writeX r _
  · exact h.writePair r _
  · exact h.writeF r _

theorem storeBytes (h : s.Inv) {ea : XWord} {n : ℕ} (hmapped : s.allMapped ea n = true) (v : FWord) :
    (s.storeBytes ea n v).Inv := by
  refine ⟨h.cfgWf, memWf_storedBytes s ea v n h.memWf, fun c hc => ?_, h.x0, h.xWidth, h.fWidth, h.pcWidth,
    h.pcAligned⟩
  obtain ⟨k, hk, hck⟩ | hc := mem_storedBytes hc
  · rw [hck]
    exact allMapped_iff.1 hmapped k hk
  · exact h.memMapped c hc

end State.Inv

/-- The effect of an instruction keeps the invariant: each of its writes does. -/
theorem Effect.inv {i : Instr} {s t : State} (h : Effect i s t) (hs : s.Inv) : t.Inv := by
  cases h with
  | fp hd v => exact ((hs.writeFp _ _ v).accrue _).retire
  | x hd v => exact ((hs.writeX _ v).accrue _).retire
  | f hd v => exact (hs.writeF _ v).retire
  | mem hd v hmapped => exact (hs.storeBytes hmapped v).retire
  | csr hd _ _ write v w =>
    cases write with
    | false => exact (hs.writeX _ v).retire
    | true => exact ((hs.writeCsr _ w).writeX _ v).retire

/-- Settles O10: a step stays where it is or has the effect of an instruction. -/
theorem stepKeepsInvariant : Obligations.StepKeepsInvariant := by
  intro s t hs h
  obtain rfl | ⟨i, hi⟩ := step_eq_next h
  · exact hs
  · exact (exec_effect hi).inv hs

/-- Settles O9: nothing is listed, and every register is zero. -/
theorem resetSatisfiesInvariant : Obligations.ResetSatisfiesInvariant where
  cfgWf := by decide +kernel
  memWf := memWf_reset
  memMapped _ hc := absurd hc List.not_mem_nil
  x0 := rfl
  xWidth r := by
    have hzero : State.reset.x[r.toNat] = 0#64 := Vector.getElem_replicate _
    rw [hzero, State.trunc_zero]
  fWidth r := by
    have hzero : State.reset.f[r.toNat] = 0 := Vector.getElem_replicate _
    rw [hzero]
    rfl
  pcWidth := State.trunc_zero _
  pcAligned := rfl

/-- The effect of an instruction leaves the configuration, and the bytes of the program text, alone. -/
theorem Effect.keeps {i : Instr} {s t : State} (h : Effect i s t) : t.cfg = s.cfg ∧ (Memory.wf s.mem = true →
    ∀ a, s.cfg.progBase ≤ a → a < s.cfg.progEnd → memRead t.mem a = memRead s.mem a) := by
  cases h with
  | fp | x => exact ⟨by simp, fun _ a _ _ => by simp⟩
  | f => exact ⟨rfl, fun _ _ _ _ => rfl⟩
  | mem hd v hmapped htext =>
    refine ⟨rfl, fun hwf a hbase hend => memRead_storedBytes_of_ne s _ v _ a hwf fun k hk hak => ?_⟩
    rw [← Bool.not_eq_true, touchesText_iff] at htext
    exact htext ⟨k, hk, by omega, by omega⟩
  | csr hd _ _ write => cases write <;> exact ⟨by simp, fun _ a _ _ => by simp⟩

/-- Settles O13: no effect reaches the configuration, and a store's effect no byte of the program text. -/
theorem stepKeepsConfiguration : Obligations.StepKeepsConfiguration := by
  intro s t h
  obtain rfl | ⟨i, hi⟩ := step_eq_next h
  · exact ⟨rfl, fun _ _ _ _ => rfl⟩
  · exact (exec_effect hi).keeps

end Sys2Proof.Machine


/-!
The launch: the premises of 60_exceptions.md R529 one by one, and the state a launch that meets them starts.
-/

namespace Sys2Proof.Machine

/-! ## The premises -/

/-- R3 and R4 in words: what depends on what, and that the two families exclude each other. -/
theorem ExtSet.wf_iff (e : ExtSet) : e.wf = true ↔
    (e.d = true → e.f = true) ∧ (e.q = true → e.d = true) ∧
    (e.zfh = true ∨ e.zfhmin = true ∨ e.zfa = true ∨ e.zfbfmin = true → e.f = true) ∧
    (e.zdinx = true ∨ e.zhinx = true ∨ e.zhinxmin = true → e.zfinx = true) ∧ ¬(e.zfinx = true ∧ e.f = true) := by
  simp only [ExtSet.wf, ExtSet.dNeedsF, ExtSet.qNeedsD, ExtSet.zfhNeedsF, ExtSet.zfhminNeedsF, ExtSet.zfaNeedsF,
    ExtSet.zfbfminNeedsF, ExtSet.zdinxNeedsZfinx, ExtSet.zhinxNeedsZfinx, ExtSet.zhinxminNeedsZfinx,
    ExtSet.familiesExclude]
  cases hf : e.f with
  | true =>
    cases hz : e.zfinx
    · simp +contextual
      grind
    · simp
  | false => cases hz : e.zfinx <;> simp +contextual <;> grind

theorem textWf_iff (s : State) : s.cfg.textWf = true ↔
    s.cfg.progBase % 4 = 0 ∧ s.cfg.progEnd % 4 = 0 ∧ s.cfg.progBase ≤ s.cfg.progEnd ∧ s.cfg.progEnd ≤ 2 ^ s.xlen ∧
      ¬(s.cfg.progBase = 0 ∧ s.cfg.progEnd = 2 ^ s.xlen) := by
  have hpos := Nat.two_pow_pos s.xlen
  simp only [Config.textWf, State.space_eq, Bool.and_eq_true, beq_iff_eq, decide_eq_true_eq]
  omega

theorem textPremise_iff (s : State) : textPremise s = true ↔
    (∀ a, s.cfg.progBase ≤ a → a < s.cfg.progEnd → s.mapped a = true) ∧ s.cfg.progBase ≤ s.pc.toNat ∧
      s.pc.toNat ≤ s.cfg.progEnd := by
  simp only [textPremise, Bool.and_eq_true, List.all_eq_true, List.mem_range, decide_eq_true_eq, and_assoc]
  refine and_congr_left fun _ => ⟨fun h a hbase hend => ?_, fun h k hk => h _ (by omega) (by omega)⟩
  have := h (a - s.cfg.progBase) (by omega)
  rwa [Nat.add_sub_cancel' hbase] at this

/-- A byte exists when its address is in the address space and in one of the ranges (20_memory.md R60, R61). -/
theorem mapped_iff (s : State) (a : ℕ) :
    s.mapped a = true ↔ a < 2 ^ s.xlen ∧ ∃ r ∈ s.cfg.regions, r.base ≤ a ∧ a < r.base + r.size := by
  simp [State.mapped, inRegion]

theorem xlenOf_eq_some {n : ℕ} {xl : Xlen} (h : xlenOf n = some xl) : xlenBits xl = n := by
  unfold xlenOf at h
  split_ifs at h with h32 h64
  · cases h
    exact h32.symm
  · cases h
    exact h64.symm

/-- An accepted launch: its XLEN exists and the three premises hold of the state it starts. -/
theorem launch_eq_next {l : Launch} {s : State} : launch l = .next s ↔
    ∃ xl, xlenOf l.xlen = some xl ∧ s = l.start xl ∧ (l.start xl).cfg.wf = true ∧ pcAligned (l.start xl) = true ∧
      textPremise (l.start xl) = true := by
  unfold launch
  cases hxl : xlenOf l.xlen with
  | none => simp
  | some xl =>
    simp only [Option.some.injEq, exists_eq_left']
    split_ifs with hwf halign htext
    · simp only [false_iff]
      rintro ⟨-, h, -, -⟩
      simp [h] at hwf
    · simp only [false_iff]
      rintro ⟨-, -, h, -⟩
      simp [h] at halign
    · simp only [false_iff]
      rintro ⟨-, -, -, h⟩
      simp [h] at htext
    · simp only [Bool.not_eq_true', Bool.not_eq_false] at hwf halign htext
      simp [hwf, halign, htext, eq_comm]

/-- A launch that is not accepted is refused. -/
theorem launch_eq_refused {l : Launch} (h : ∀ s, launch l ≠ .next s) : ∃ r, launch l = .refused r := by
  revert h
  unfold launch
  cases xlenOf l.xlen with
  | none => exact fun _ => ⟨_, rfl⟩
  | some xl =>
    dsimp only
    split_ifs
    · exact fun _ => ⟨_, rfl⟩
    · exact fun _ => ⟨_, rfl⟩
    · exact fun _ => ⟨_, rfl⟩
    · exact fun h => absurd rfl (h _)

/-! ## The bytes of a launch -/

/-- The bytes of a launch written one after the other. -/
def writeCells (cs : List Host.Cell) (m : List Host.Cell) : List Host.Cell :=
  cs.foldl (fun m c => memWrite m c.1 c.2) m

theorem memWf_writeCells {cs m : List Host.Cell} (h : Memory.wf m = true) : Memory.wf (writeCells cs m) = true := by
  induction cs generalizing m with
  | nil => exact h
  | cons c cs ih => exact ih (memWf_memWrite m c.1 c.2 h)

theorem mem_writeCells {cs m : List Host.Cell} {c : Host.Cell} (h : c ∈ writeCells cs m) :
    c.1 ∈ cs.map (·.1) ∨ c ∈ m := by
  induction cs generalizing m with
  | nil => exact .inr h
  | cons d cs ih =>
    obtain h | h := ih h
    · exact .inl (List.mem_cons_of_mem _ h)
    · obtain h | h := mem_memWrite h
      · exact .inl (by simp [h])
      · exact .inr h

theorem memRead_writeCells_of_notMem {cs m : List Host.Cell} {a : ℕ} (hm : Memory.wf m = true)
    (ha : a ∉ cs.map (·.1)) : memRead (writeCells cs m) a = memRead m a := by
  induction cs generalizing m with
  | nil => rfl
  | cons c cs ih =>
    rw [List.map_cons, List.mem_cons, not_or] at ha
    refine (ih (memWf_memWrite m c.1 c.2 hm) ha.2).trans ?_
    rw [memRead_memWrite m _ _ _ hm, if_neg ha.1]

/-- Where no address is listed twice every listed byte is written. -/
theorem memRead_writeCells {cs m : List Host.Cell} {c : Host.Cell} (hm : Memory.wf m = true)
    (hcs : (cs.map (·.1)).Nodup) (hc : c ∈ cs) : memRead (writeCells cs m) c.1 = c.2 := by
  induction cs generalizing m with
  | nil => cases hc
  | cons d cs ih =>
    rw [List.map_cons, List.nodup_cons] at hcs
    have hm' := memWf_memWrite m d.1 d.2 hm
    obtain rfl | hc := List.mem_cons.1 hc
    · refine (memRead_writeCells_of_notMem hm' hcs.1).trans ?_
      rw [memRead_memWrite m _ _ _ hm, if_pos rfl]
    · exact ih hm' hcs.2 hc

/-! ## The state a launch starts -/

section
variable (l : Launch) (xl : Xlen)

theorem Launch.start_mem :
    (l.start xl).mem = writeCells (l.bytes.filter fun c => (l.start xl).mapped c.1) [] := rfl

theorem Launch.start_x (r : Reg) :
    (l.start xl).x[r.toNat] = if r = 0 then 0 else (l.start xl).trunc l.x[r.toNat] := by
  have hx : (l.start xl).x = (l.x.map (l.start xl).trunc).set 0 0 := rfl
  simp only [hx]
  by_cases hr : r = 0
  · subst hr
    exact Vector.getElem_set_self _
  · rw [if_neg hr, Vector.getElem_set_ne (i := 0) (j := r.toNat) _ _ fun h0 => hr (BitVec.eq_of_toNat_eq h0.symm),
      Vector.getElem_map]

theorem Launch.start_f (r : Reg) : (l.start xl).f[r.toNat] = (l.start xl).truncF l.f[r.toNat] := by
  have hf : (l.start xl).f = l.f.map (l.start xl).truncF := rfl
  simp only [hf, Vector.getElem_map]

theorem Launch.start_pc_toNat : (l.start xl).pc.toNat = l.pc.toNat % 2 ^ (l.start xl).xlen :=
  (l.start xl).toNat_trunc l.pc

theorem Launch.start_inv {l : Launch} {xl : Xlen} (hwf : (l.start xl).cfg.wf = true)
    (halign : pcAligned (l.start xl) = true) : (l.start xl).Inv where
  cfgWf := hwf
  memWf := memWf_writeCells rfl
  memMapped c hc := by
    rw [Launch.start_mem] at hc
    obtain hc | hc := mem_writeCells hc
    · obtain ⟨d, hd, hdc⟩ := List.mem_map.1 hc
      rw [← hdc]
      exact (List.mem_filter.1 hd).2
    · cases hc
  x0 := l.start_x xl 0
  xWidth r := by
    rw [Launch.start_x]
    split <;> simp
  fWidth r := by
    rw [Launch.start_f]
    exact State.truncF_truncF _ _
  pcWidth := State.trunc_trunc _ _
  pcAligned := halign

end

/-- In an accepted state the pc is at PROG_END exactly when it is the end as a number, the text being shorter than the
address space (60_exceptions.md R529). -/
theorem final_iff {s : State} (hwf : s.cfg.wf = true) (hpc : s.trunc s.pc = s.pc)
    (hbase : s.cfg.progBase ≤ s.pc.toNat) :
    Final s ↔ s.pc.toNat = s.cfg.progEnd := by
  have hlt : s.pc.toNat < 2 ^ s.xlen := by
    rw [← hpc, State.toNat_trunc]
    exact Nat.mod_lt _ (Nat.two_pow_pos _)
  simp only [Config.wf, Bool.and_eq_true] at hwf
  obtain ⟨-, -, -, hle, hspace⟩ := (textWf_iff s).1 hwf.2
  rw [Final, isFinal, beq_iff_eq]
  obtain hlt' | heq := hle.lt_or_eq
  · rw [Nat.mod_eq_of_lt hlt']
  · rw [heq, Nat.mod_self]
    omega

/-! ## The outcomes -/

/-- An accepted launch meets every premise that its inputs state. -/
theorem launch_premises {l : Launch} {s : State} (h : launch l = .next s) :
    (l.xlen = 32 ∨ l.xlen = 64) ∧ l.ext.wf = true ∧ l.pc.toNat % 4 = 0 ∧ l.progBase % 4 = 0 ∧ l.progEnd % 4 = 0 ∧
      l.progBase ≤ l.progEnd ∧ l.progEnd ≤ 2 ^ l.xlen ∧ ¬(l.progBase = 0 ∧ l.progEnd = 2 ^ l.xlen) ∧
      (l.pc.toNat < 2 ^ l.xlen → l.progBase ≤ l.pc.toNat ∧ l.pc.toNat ≤ l.progEnd) ∧
      ∀ a, l.progBase ≤ a → a < l.progEnd → ∃ r ∈ l.regions, r.base ≤ a ∧ a < r.base + r.size := by
  obtain ⟨xl, hxl, rfl, hwf, halign, htext⟩ := launch_eq_next.1 h
  have hxlen : (l.start xl).xlen = l.xlen := xlenOf_eq_some hxl
  simp only [Config.wf, Bool.and_eq_true] at hwf
  obtain ⟨hext, htextWf⟩ := hwf
  obtain ⟨hbase, hend, hle, hspace, hwhole⟩ := (textWf_iff _).1 htextWf
  obtain ⟨hmapped, hpcBase, hpcEnd⟩ := (textPremise_iff _).1 htext
  have halign : (l.start xl).pc.toNat % 4 = 0 := beq_iff_eq.1 halign
  rw [hxlen] at hspace hwhole
  rw [l.start_pc_toNat xl] at halign hpcBase hpcEnd
  rw [Nat.mod_mod_of_dvd _ (four_dvd_space _)] at halign
  rw [hxlen] at hpcBase hpcEnd
  refine ⟨?_, hext, halign, hbase, hend, hle, hspace, hwhole, fun hpc => ?_,
    fun a ha ha' => ((mapped_iff _ a).1 (hmapped a ha ha')).2⟩
  · rw [← hxlen]
    cases xl <;> simp [State.xlen, Launch.start, Launch.config, xlenBits]
  · rw [Nat.mod_eq_of_lt hpc] at hpcBase hpcEnd
    exact ⟨hpcBase, hpcEnd⟩

/-- A launch that meets the premises is accepted. -/
theorem launch_accepts {l : Launch} (hxlen : l.xlen = 32 ∨ l.xlen = 64) (hext : l.ext.wf = true)
    (halign : l.pc.toNat % 4 = 0) (hbase : l.progBase % 4 = 0) (hend : l.progEnd % 4 = 0) (hle : l.progBase ≤ l.progEnd)
    (hspace : l.progEnd ≤ 2 ^ l.xlen) (hwhole : ¬(l.progBase = 0 ∧ l.progEnd = 2 ^ l.xlen))
    (hpc : l.pc.toNat < 2 ^ l.xlen) (hpcBase : l.progBase ≤ l.pc.toNat) (hpcEnd : l.pc.toNat ≤ l.progEnd)
    (htext : ∀ a, l.progBase ≤ a → a < l.progEnd → ∃ r ∈ l.regions, r.base ≤ a ∧ a < r.base + r.size) :
    ∃ xl, (l.start xl).xlen = l.xlen ∧ (l.start xl).pc = l.pc ∧ launch l = .next (l.start xl) := by
  obtain ⟨xl, hxl⟩ : ∃ xl, xlenOf l.xlen = some xl := by
    obtain h | h := hxlen <;> rw [h] <;> exact ⟨_, rfl⟩
  have hbits : (l.start xl).xlen = l.xlen := xlenOf_eq_some hxl
  have hpcNat : (l.start xl).pc.toNat = l.pc.toNat := by
    rw [l.start_pc_toNat, hbits, Nat.mod_eq_of_lt hpc]
  refine ⟨xl, hbits, BitVec.eq_of_toNat_eq hpcNat, launch_eq_next.2 ⟨xl, hxl, rfl, ?_, ?_, ?_⟩⟩
  · rw [Config.wf, Bool.and_eq_true, textWf_iff, hbits]
    exact ⟨hext, hbase, hend, hle, hspace, hwhole⟩
  · rw [pcAligned, beq_iff_eq, hpcNat]
    exact halign
  · rw [textPremise_iff, hpcNat]
    refine ⟨fun a ha ha' => (mapped_iff _ a).2 ⟨?_, htext a ha ha'⟩, hpcBase, hpcEnd⟩
    rw [hbits]
    exact lt_of_lt_of_le ha' hspace

/-- Settles O11: `launch` makes exactly these checks, and starts the state that `Launch.start` describes. -/
theorem launchOutcomes : Obligations.LaunchOutcomes := by
  refine fun l => ⟨fun s h => ?_, fun hbroken => launch_eq_refused fun s h => ?_,
    fun hxlen hd hq hf hz hfamilies halign hbase hend hle hspace hwhole hpc hpcBase hpcEnd htext => ?_⟩
  · obtain ⟨xl, -, rfl, hwf, halign, htext⟩ := launch_eq_next.1 h
    obtain ⟨hmapped, hpcBase, hpcEnd⟩ := (textPremise_iff _).1 htext
    exact ⟨Launch.start_inv hwf halign, hpcBase, hpcEnd, hmapped,
      final_iff hwf (State.trunc_trunc _ _) hpcBase⟩
  · obtain ⟨hxlen, hext, halign, hbase, hend, hle, hspace, hwhole, hpc, htext⟩ := launch_premises h
    obtain ⟨hd, hq, hf, hz, hfamilies⟩ := (ExtSet.wf_iff _).1 hext
    obtain ⟨h1, h2⟩ | ⟨h1, h2⟩ | ⟨h1, h2⟩ | ⟨h1, h2⟩ | hboth | ⟨h1, h2⟩ | h1 | h1 | h1 | h1 | h1 | h1 | ⟨h1, h2⟩ |
      ⟨a, h1, h2, h3⟩ := hbroken
    · simp [hd h1] at h2
    · simp [hq h1] at h2
    · simp [hf h1] at h2
    · simp [hz h1] at h2
    · exact hfamilies hboth
    · exact hxlen.elim h1 h2
    · exact h1 halign
    · exact h1 hbase
    · exact h1 hend
    · omega
    · omega
    · exact hwhole h1
    · have := hpc h1
      omega
    · obtain ⟨r, hr, hin⟩ := htext a h1 h2
      exact h3 r hr hin
  · obtain ⟨xl, hbits, hpc', hlaunch⟩ := launch_accepts hxlen ((ExtSet.wf_iff _).2 ⟨hd, hq, hf, hz, hfamilies⟩) halign
      hbase hend hle hspace hwhole hpc hpcBase hpcEnd htext
    refine ⟨l.start xl, hlaunch, hbits, rfl, rfl, rfl, rfl, rfl, rfl, hpc', rfl, rfl, fun r => ?_, fun r => ?_,
      fun hnodup c hc hmapped => ?_⟩
    · rw [State.readX, Launch.start_x]
      by_cases hr : r = 0
      · rw [if_pos hr, if_pos hr]
      · rw [if_neg hr, if_neg hr, State.trunc_trunc]
    · rw [State.readF, Launch.start_f, State.truncF_truncF]
    · rw [Launch.start_mem]
      exact memRead_writeCells rfl (hnodup.sublist (List.filter_sublist.map _)) (List.mem_filter.2 ⟨hc, hmapped⟩)

end Sys2Proof.Machine

/-!
Operands and results under Zfinx (40_fp_common.md R141, R142).
-/

namespace Sys2Proof.Machine

section
variable {s : State} {r : Reg} {fmt : Fmt}

theorem State.readFp_of_inX (hx : s.inX = true) (hw : fmt.width ≤ s.xlen) :
    s.readFp fmt r = (s.readX r).setWidth fmt.width := by
  rw [State.readFp, if_pos hx, if_pos hw]

theorem State.writeFp_of_inX (hx : s.inX = true) (hw : fmt.width ≤ s.xlen) (v : Bits fmt) :
    s.writeFp fmt r v = s.writeX r (v.signExtend 64) := by
  rw [State.writeFp, if_pos hx, if_pos hw]

/-- A double is wider than XLEN on RV32. -/
theorem not_double_le_xlen (h : s.cfg.xlen = .rv32) : ¬ Fmt.d.width ≤ s.xlen := by
  rw [State.xlen, h]
  decide

theorem State.readFp_double (hx : s.inX = true) (h : s.cfg.xlen = .rv32) (r : Reg) : s.readFp .d r = s.readPair r := by
  rw [State.readFp, if_pos hx, if_neg (not_double_le_xlen h)]
  exact BitVec.setWidth_eq _

theorem State.writeFp_double (hx : s.inX = true) (h : s.cfg.xlen = .rv32) (r : Reg) (v : Bits .d) :
    s.writeFp .d r v = s.writePair r v := by
  rw [State.writeFp, if_pos hx, if_neg (not_double_le_xlen h)]
  exact congrArg _ (BitVec.setWidth_eq _)

/-- Cutting a sign-extended result to XLEN leaves its own bits. -/
theorem setWidth_trunc_signExtend (hw : fmt.width ≤ s.xlen) (v : Bits fmt) :
    (s.trunc (v.signExtend 64)).setWidth fmt.width = v := by
  have hle := s.xlen_bounds.2
  apply BitVec.eq_of_getLsbD_eq
  intro b hb
  simp [State.trunc, BitVec.getElem_signExtend, hb, show b < s.xlen by omega, show b < 64 by omega]

/-- The two registers of a pair are different, and neither is x0. -/
theorem pair_ne {r : Reg} (heven : r.toNat % 2 = 0) : r + 1 ≠ 0 ∧ r ≠ r + 1 := by
  have hlt := r.isLt
  have hsucc : (r + 1).toNat = r.toNat + 1 := by
    rw [BitVec.toNat_add]
    simp
    omega
  refine ⟨fun h => ?_, fun h => ?_⟩
  · rw [h] at hsucc
    simp at hsucc
  · have := congrArg BitVec.toNat h
    omega

theorem setWidth_32_64 (w : BitVec 32) : (w.setWidth 64).setWidth 32 = w := by
  rw [BitVec.setWidth_setWidth_of_le _ (by decide), BitVec.setWidth_eq]

/-- What the two registers of a pair read as after a write of it (R142). -/
theorem readX_writePair (h : s.cfg.xlen = .rv32) (heven : r.toNat % 2 = 0) (hr : r ≠ 0) (v : BitVec 64) :
    (s.writePair r v).readX r = (v.extractLsb' 0 32).setWidth 64 ∧
      (s.writePair r v).readX (r + 1) = (v.extractLsb' 32 32).setWidth 64 := by
  obtain ⟨hr1, hne⟩ := pair_ne heven
  have hcut (t : State) (ht : t.cfg.xlen = .rv32) (w : BitVec 32) : t.trunc (w.setWidth 64) = w.setWidth 64 := by
    rw [State.trunc_rv32 t ht, setWidth_32_64]
  rw [State.writePair, if_neg hr]
  refine ⟨?_, ?_⟩
  · rw [State.readX_writeX_of_ne _ _ hne, State.readX_writeX_self _ _ hr, hcut s h]
  · rw [State.readX_writeX_self _ _ hr1, hcut _ (by simpa using h)]

theorem readPair_writePair (h : s.cfg.xlen = .rv32) (heven : r.toNat % 2 = 0) (hr : r ≠ 0) (v : BitVec 64) :
    (s.writePair r v).readPair r = v := by
  obtain ⟨hlow, hhigh⟩ := readX_writePair h heven hr v
  have hjoin : v.extractLsb' 32 32 ++ v.extractLsb' 0 32 = v.extractLsb' 0 64 :=
    BitVec.extractLsb'_append_extractLsb'_eq_extractLsb' rfl
  rw [State.readPair, if_neg hr, hlow, hhigh, setWidth_32_64, setWidth_32_64]
  exact hjoin.trans BitVec.extractLsb'_eq_self

end

/-- Settles O49: the x-register forms of the operand read and the result write, and their pairs on RV32. -/
theorem zfinxOperandForms : Obligations.ZfinxOperandForms := by
  intro s r hz
  have hx : s.inX = true := hz
  refine ⟨fun fmt hw => State.readFp_of_inX hx hw, fun h _ hr => ?_, fun fmt v hw hr => ?_, fun v h heven hr => ?_,
    fun v h => ⟨?_, ?_⟩⟩
  · rw [State.readFp_double hx h, State.readPair, if_neg hr, extractLsb'_zero_eq_setWidth, extractLsb'_zero_eq_setWidth]
  · have hread := State.readX_writeX_self s (v.signExtend 64) hr
    have hx' : (s.writeX r (v.signExtend 64)).inX = true := (State.inX_congr (s.writeX_cfg r _)).trans hx
    have hw' : fmt.width ≤ (s.writeX r (v.signExtend 64)).xlen := (State.xlen_congr (s.writeX_cfg r _)).symm ▸ hw
    rw [State.writeFp_of_inX hx hw, State.readFp_of_inX hx' hw', hread]
    exact ⟨rfl, setWidth_trunc_signExtend hw v⟩
  · have hx' : (s.writePair r v).inX = true := (State.inX_congr (s.writePair_cfg r v)).trans hx
    have h' : (s.writePair r v).cfg.xlen = .rv32 := by rw [State.writePair_cfg, h]
    obtain ⟨hlow, hhigh⟩ := readX_writePair h heven hr v
    rw [State.writeFp_double hx h, State.readFp_double hx' h']
    exact ⟨hlow, hhigh, readPair_writePair h heven hr v⟩
  · rw [State.writeFp_double hx h, State.writePair_zero]
  · rw [State.readFp_double hx h]
    rfl

end Sys2Proof.Machine


/-!
The values of the patterns and the choice among the candidates (40_fp_common.md R131, R144).
-/

namespace Sys2Proof.Machine

/-! ## Values (R131) -/

section
variable {fmt : Fmt} {v : Bits fmt}

theorem ratOf_eq_sign_mul (v : Bits fmt) : ratOf v = (if v.msb then -1 else 1) * absOf v := by
  rw [ratOf_eq, signOf]
  split <;> ring

theorem absOf_of_expOf_eq_zero (h : expOf v = 0) : absOf v = fracOf v * (2 : ℚ) ^ (fmt.emin - fmt.fracBits) := by
  rw [absOf, sigOf_of_expOf_eq_zero h, unitOf_of_expOf_eq_zero h]

theorem absOf_of_expOf_pos (h : 0 < expOf v) :
    absOf v = (1 + fracOf v / 2 ^ fmt.fracBits) * (2 : ℚ) ^ ((expOf v : ℤ) - fmt.bias) := by
  rw [absOf, sigOf_of_expOf_pos h, unitOf_of_expOf_pos h, zpow_sub₀ two_ne_zero _ (fmt.fracBits : ℤ), zpow_natCast]
  push_cast
  field_simp

theorem absOf_pos_iff : 0 < absOf v ↔ isZero v = false := by
  refine ⟨fun h => ?_, fun h => lt_of_lt_of_le (by positivity) (two_zpow_le_absOf h)⟩
  rw [← Bool.not_eq_true]
  intro hz
  have hmag := (isZero_iff v).1 hz
  rw [absOf_of_magOf_subnormal (by rw [hmag]; positivity), hmag] at h
  simp at h

theorem ratOf_eq_zero_iff : ratOf v = 0 ↔ isZero v = true := by
  rw [← abs_eq_zero, abs_ratOf, ← (absOf_nonneg v).not_lt_iff_eq', absOf_pos_iff, Bool.not_eq_false]

/-- The largest finite magnitude: the last pattern below the infinities. -/
theorem absOf_maxFiniteOf (neg : Bool) :
    absOf (maxFiniteOf fmt neg) = (2 - (2 : ℚ) ^ (-(fmt.fracBits : ℤ))) * (2 : ℚ) ^ fmt.emax := by
  have hm : 0 < 2 ^ fmt.fracBits := by positivity
  have htwo := fmt.two_le_expMax
  have hmax := fmt.expMax_eq
  have hinf : fmt.infMag - 1 = (fmt.expMax - 2 + 1) * 2 ^ fmt.fracBits + (2 ^ fmt.fracBits - 1) := by
    have : fmt.expMax * 2 ^ fmt.fracBits = (fmt.expMax - 2 + 1) * 2 ^ fmt.fracBits + 2 ^ fmt.fracBits := by
      rw [← Nat.succ_mul]
      congr 1
      omega
    rw [Fmt.infMag]
    omega
  have hmag : magOf (maxFiniteOf fmt neg) = fmt.infMag - 1 :=
    magOf_pack ((Nat.sub_le _ _).trans_lt ((Nat.le_add_right _ _).trans_lt fmt.infMag_add_lt))
  have hunit : fmt.emin - fmt.fracBits + (fmt.expMax - 2 : ℕ) = fmt.emax + -(fmt.fracBits : ℤ) := by
    rw [Fmt.emin, Fmt.emax]
    omega
  rw [absOf_of_magOf_normal (hmag.trans hinf) (by omega), hunit, zpow_add₀ two_ne_zero, zpow_neg, zpow_natCast,
    ← Nat.add_sub_assoc (by omega), Nat.cast_sub (by omega)]
  push_cast
  field_simp
  ring

theorem magOf_ofNat {n : ℕ} (h : n < 2 ^ (fmt.width - 1)) :
    magOf (fmt := fmt) (BitVec.ofNat fmt.width n) = n ∧ signOf (fmt := fmt) (BitVec.ofNat fmt.width n) = false := by
  have hpack : BitVec.ofNat fmt.width n = pack fmt false n := by simp [pack]
  rw [hpack]
  exact ⟨magOf_pack h, signOf_pack h⟩

/-- The class conditions of R131 exclude each other and leave no pattern out. -/
theorem count_classes (v : Bits fmt) :
    [isZero v, isSubnormal v, decide (0 < expOf v) && isFinite v, isInf v, isNaN v].count true = 1 := by
  have htwo := fmt.two_le_expMax
  simp only [isZero, isSubnormal, isFinite, isInf, isNaN, bne]
  obtain hE | hE | ⟨hpos, hne⟩ : expOf v = 0 ∨ expOf v = fmt.expMax ∨ (0 < expOf v ∧ expOf v ≠ fmt.expMax) := by omega
  · have hmax : (0 == fmt.expMax) = false := beq_false_of_ne (by omega)
    cases fracOf v == 0 <;> simp [hE, hmax]
  · have hzero : (fmt.expMax == 0) = false := beq_false_of_ne (by omega)
    cases fracOf v == 0 <;> simp [hE, hzero]
  · have hmax : (expOf v == fmt.expMax) = false := beq_false_of_ne hne
    have hzero : (expOf v == 0) = false := beq_false_of_ne hpos.ne'
    simp [hmax, hzero, hpos]

end

/-- Settles O50: a magnitude is its significand in its unit, and magnitudes are in the order of the patterns. -/
theorem patternValues : Obligations.PatternValues := by
  intro fmt v sgn
  have hm : 2 ^ fmt.fracBits < 2 ^ (fmt.width - 1) := by
    have := fmt.two_le_expMax
    have : 0 < 2 ^ fmt.fracBits := by positivity
    rw [fmt.two_pow_width_pred]
    nlinarith
  have hone : 1 < 2 ^ fmt.fracBits := Nat.one_lt_two_pow fmt.fracBits_pos.ne'
  refine ⟨fun hE => ?_, fun hE _ => ?_, fun hfin => ?_, ?_, ⟨count_classes v, fun hnormal => ?_⟩, ?_, fun hsub => ?_, ?_,
    fun _ => ratOf_eq_zero_iff⟩
  · rw [ratOf_eq_sign_mul, absOf_of_expOf_eq_zero hE, mul_assoc]
  · rw [ratOf_eq_sign_mul, absOf_of_expOf_pos hE, mul_assoc]
  · rw [abs_ratOf, ← absOf_maxFiniteOf false]
    refine absOf_le_of_magOf_le ?_
    have := (isFinite_iff v).1 hfin
    rw [maxFiniteOf, magOf_pack ((Nat.sub_le _ _).trans_lt ((Nat.le_add_right _ _).trans_lt fmt.infMag_add_lt))]
    omega
  · rw [ratOf_of_pos, absOf_maxFiniteOf]
    exact signOf_pack ((Nat.sub_le _ _).trans_lt ((Nat.le_add_right _ _).trans_lt fmt.infMag_add_lt))
  · simp only [Bool.and_eq_true, decide_eq_true_eq] at hnormal
    obtain ⟨hE, -⟩ := hnormal
    rw [abs_ratOf]
    refine le_trans (zpow_le_zpow_right₀ one_le_two ?_) (le_absOf hE)
    rw [Fmt.emin]
    omega
  · obtain ⟨hmag, hsign⟩ := magOf_ofNat (fmt := fmt) hm
    rw [ratOf_of_pos hsign, absOf_of_magOf_normal (t := 0) (T := 0) (by rw [hmag]; ring) (by positivity)]
    push_cast
    rw [← zpow_natCast, add_zero, add_zero, ← zpow_add₀ two_ne_zero, add_sub_cancel]
  · obtain ⟨hE, hzero⟩ := isSubnormal_iff.1 hsub
    rw [abs_ratOf]
    refine ⟨two_zpow_le_absOf hzero, ?_⟩
    have hlt := absOf_lt v
    rwa [hE, Nat.cast_zero, zero_add] at hlt
  · obtain ⟨hmag, hsign⟩ := magOf_ofNat (fmt := fmt) (hone.trans hm)
    rw [ratOf_of_pos hsign, absOf_of_magOf_subnormal (by rw [hmag]; exact hone), hmag, Nat.cast_one, one_mul]

/-! ## The chosen candidate (R144) -/

/-- The choice depends on the number of units alone. -/
theorem chosen_mul_iff {mode : Mode} {y u : ℚ} (hu : 0 < u) {k : ℤ} : Chosen mode (y * u) u k ↔ Chosen mode y 1 k := by
  have hsub : |y * u - k * u| = |y - k| * u := by rw [← sub_mul, abs_mul, abs_of_pos hu]
  have hy : |y * u| = |y| * u := by rw [abs_mul, abs_of_pos hu]
  have hk : |(k : ℚ) * u| = |(k : ℚ)| * u := by rw [abs_mul, abs_of_pos hu]
  have hhalf : u / 2 = 1 / 2 * u := by ring
  cases mode with
  | rne => simp only [Chosen, hsub, hhalf, mul_one, mul_le_mul_iff_left₀ hu, mul_left_inj' hu.ne']
  | rmm => simp only [Chosen, hsub, hhalf, hy, hk, mul_one, mul_le_mul_iff_left₀ hu, mul_left_inj' hu.ne',
      mul_lt_mul_iff_left₀ hu]
  | rtz =>
    simp only [Chosen, hsub, hy, hk, mul_one, mul_le_mul_iff_left₀ hu]
    rw [mul_lt_iff_lt_one_left hu]
  | rdn =>
    have hnext : (k : ℚ) * u + u = (k + 1) * u := by ring
    simp only [Chosen, hnext, mul_one, mul_le_mul_iff_left₀ hu, mul_lt_mul_iff_left₀ hu]
  | rup =>
    have hprev : (k : ℚ) * u - u = (k - 1) * u := by ring
    simp only [Chosen, hprev, mul_one, mul_le_mul_iff_left₀ hu, mul_lt_mul_iff_left₀ hu]

theorem chosen_iff_div {mode : Mode} {x u : ℚ} (hu : 0 < u) {k : ℤ} : Chosen mode x u k ↔ Chosen mode (x / u) 1 k := by
  rw [← chosen_mul_iff hu, div_mul_cancel₀ _ hu.ne']

theorem chosen_intCast (mode : Mode) (k : ℤ) : Chosen mode k 1 k := by
  cases mode <;> simp [Chosen]

/-- An integer with a sign in front. -/
def signed (neg : Bool) (k : ℤ) : ℤ := if neg then -k else k

theorem abs_signed (neg : Bool) (k : ℕ) : |((signed neg k : ℤ) : ℚ)| = k := by
  cases neg <;> simp [signed]

/-- A cut of the magnitude is rounded to the integer that the mode chooses for the number. -/
theorem chosen_signed {c : Cut} {x : ℚ} (h : c.At |x|) (mode : Mode) {neg : Bool} (hneg : neg = decide (x < 0)) :
    Chosen mode x 1 (signed neg (c.rounded mode neg)) := by
  subst hneg
  by_cases hx : x < 0
  · rw [abs_of_neg hx] at h
    simp only [hx, decide_true, signed, if_true, Cut.rounded_true]
    simpa using chosen_neg (chosen_rounded (by linarith) h mode.mirror)
  · rw [abs_of_nonneg (not_lt.1 hx)] at h
    simpa [hx, signed] using chosen_rounded (not_lt.1 hx) h mode

/-- Every rational can be cut at the units. -/
theorem exists_cut_at (x : ℚ) : ∃ c : Cut, c.At |x| := by
  have hvalue : |x| = (x.num.natAbs : ℚ) / x.den := by
    rw [Nat.cast_natAbs, Int.cast_abs]
    conv_lhs => rw [← Rat.num_div_den x, abs_div, Nat.abs_cast]
  exact ⟨_, hvalue ▸ cutRatio_at x.num.natAbs x.den_pos⟩

theorem exists_chosen (mode : Mode) (x : ℚ) {u : ℚ} (hu : 0 < u) : ∃ k : ℤ, Chosen mode x u k := by
  obtain ⟨c, hc⟩ := exists_cut_at (x / u)
  exact ⟨_, (chosen_iff_div hu).2 (chosen_signed hc mode rfl)⟩

theorem chosen_unit_unique {mode : Mode} {x u : ℚ} (hu : 0 < u) {j k : ℤ} (hj : Chosen mode x u j)
    (hk : Chosen mode x u k) : j = k := chosen_unique ((chosen_iff_div hu).1 hj) ((chosen_iff_div hu).1 hk)

theorem chosen_of_eq {mode : Mode} {x u : ℚ} (hu : 0 < u) {k : ℤ} (h : x = k * u) : Chosen mode x u k := by
  rw [h, chosen_mul_iff hu]
  exact chosen_intCast mode k

/-- Settles O51: scaled to the unit 1, a cut of the number gives the choice. -/
theorem roundingChoosesOneCandidate : Obligations.RoundingChoosesOneCandidate := by
  intro mode x u hu
  obtain ⟨k, hk⟩ := exists_chosen mode x hu
  exact ⟨⟨k, hk, fun j hj => chosen_unit_unique hu hj hk⟩, fun k h => chosen_of_eq hu h⟩

end Sys2Proof.Machine


/-!
Correct rounding: the candidate of `roundReal` is the one that the mode chooses, its overflow and its tininess are those
of R145 and R146, and every operation on finite operands rounds the exact rational result once.
-/

namespace Sys2Proof.Machine

/-! ## The exact number of a magnitude -/

/-- A quotient as a magnitude, over the rationals. -/
def absRatio (num den : ℕ) (exp : ℤ) : ℚ := num / den * (2 : ℚ) ^ exp

section
variable {num den : ℕ} {exp : ℤ}

theorem ratioRat_eq (neg : Bool) (num den : ℕ) (exp : ℤ) :
    ratioRat neg num den exp = if neg then -absRatio num den exp else absRatio num den exp := by
  unfold ratioRat absRatio
  cases neg <;> simp

theorem absRatio_pos (hnum : 0 < num) (hden : 0 < den) : 0 < absRatio num den exp := by
  unfold absRatio
  positivity

theorem cast_absRatio : ((absRatio num den exp : ℚ) : ℝ) = (Magnitude.ratio num den exp).toReal := by
  simp [absRatio, Magnitude.toReal]

theorem abs_ratioRat (neg : Bool) : |ratioRat neg num den exp| = absRatio num den exp := by
  have h : 0 ≤ absRatio num den exp := by
    unfold absRatio
    positivity
  rw [ratioRat_eq]
  split <;> simp [abs_of_nonneg h]

theorem ratioRat_neg_iff (hnum : 0 < num) (hden : 0 < den) (neg : Bool) :
    neg = decide (ratioRat neg num den exp < 0) := by
  have h := absRatio_pos (exp := exp) hnum hden
  rw [ratioRat_eq]
  cases neg
  · simp [h.le]
  · simp [h]

/-- The number of units in a quotient, cut. -/
theorem cut_at_ratioRat (hden : 0 < den) (neg : Bool) (q : ℤ) :
    ((Magnitude.ratio num den exp).cut q).At |ratioRat neg num den exp / (2 : ℚ) ^ q| := by
  have hpos : (0 : ℚ) < 2 ^ q := by positivity
  rw [abs_div, abs_ratioRat, abs_of_pos hpos, ← Cut.at_cast]
  push_cast
  rw [cast_absRatio]
  exact cut_ratio_at hden exp q

end

/-! ## Powers of two against candidates -/

/-- The threshold of R145 and R146 on the candidate itself: a candidate that is not zero may be compared in units. -/
theorem two_pow_toNat_le_iff {n : ℕ} {z q : ℤ} (h : q ≤ z ∨ 1 ≤ n) :
    2 ^ (z - q).toNat ≤ n ↔ (2 : ℚ) ^ z ≤ n * (2 : ℚ) ^ q := by
  have hpos : (0 : ℚ) < 2 ^ q := by positivity
  obtain hq | hq := le_total q z
  · rw [← div_le_iff₀ hpos, ← zpow_sub₀ two_ne_zero, ← Int.toNat_of_nonneg (sub_nonneg.2 hq), zpow_natCast]
    simp only [Int.toNat_natCast]
    exact_mod_cast Iff.rfl
  · obtain hq' | hn := h
    · obtain rfl : q = z := le_antisymm hq' hq
      have hone : (1 : ℚ) ≤ n ↔ 1 ≤ n := by exact_mod_cast Iff.rfl
      rw [sub_self, Int.toNat_zero, pow_zero, ← div_le_iff₀ hpos, div_self hpos.ne', hone]
    · refine iff_of_true ?_ ?_
      · rwa [Int.toNat_of_nonpos (by omega), pow_zero]
      · have hn' : (1 : ℚ) ≤ n := by exact_mod_cast hn
        exact (zpow_le_zpow_right₀ one_le_two hq).trans (le_mul_of_one_le_left hpos.le hn')

/-! ## Rounding (R145, R146) -/

section
variable {fmt : Fmt} {mode : Mode} {x : Magnitude}

/-- The candidate at p bits and an unbounded exponent range is never zero. -/
theorem one_le_rounded_of_pos (hx : x.Pos) (mode : Mode) (neg : Bool) :
    1 ≤ (x.cut (x.ilog2 - fmt.fracBits)).rounded mode neg := by
  have hreal : (2 : ℝ) ^ fmt.fracBits ≤ x.toReal / 2 ^ (x.ilog2 - fmt.fracBits) := by
    rw [le_div_iff₀ (by positivity), ← zpow_natCast, ← zpow_add₀ two_ne_zero, add_sub_cancel]
    exact (Magnitude.ilog2_spec hx).left
  exact Nat.one_le_two_pow.trans (((Magnitude.cut_at hx _).two_pow_le_floor hreal).trans
    (Cut.floor_le_rounded _ mode neg))

/-- A number whose unit is above the overflow threshold is normal, so its candidate is not zero. -/
theorem quantum_le_or_one_le_candidate (hx : x.Pos) (mode : Mode) (neg : Bool) :
    quantum fmt x.ilog2 ≤ fmt.emax + 1 ∨ 1 ≤ candidate fmt mode neg x := by
  have hbias := fmt.one_lt_bias
  obtain hl | hl := le_total fmt.emin x.ilog2
  · exact .inr (Nat.one_le_two_pow.trans (two_pow_le_candidate hx hl mode neg))
  · left
    rw [quantum, max_eq_right hl]
    unfold Fmt.emin Fmt.emax
    omega

/-- What an overflow delivers, by mode and sign. -/
theorem overflowResult_eq_infOf {neg : Bool}
    (h : mode = .rne ∨ mode = .rmm ∨ (mode = .rup ∧ neg = false) ∨ (mode = .rdn ∧ neg = true)) :
    overflowResult fmt mode neg = infOf fmt neg := by
  obtain rfl | rfl | ⟨rfl, rfl⟩ | ⟨rfl, rfl⟩ := h <;> rfl

theorem overflowResult_eq_maxFiniteOf {neg : Bool}
    (h : mode = .rtz ∨ (mode = .rup ∧ neg = true) ∨ (mode = .rdn ∧ neg = false)) :
    overflowResult fmt mode neg = maxFiniteOf fmt neg := by
  obtain rfl | ⟨rfl, rfl⟩ | ⟨rfl, rfl⟩ := h <;> rfl

theorem roundingFlags_eq (inexact tiny : Bool) :
    roundingFlags inexact tiny = if inexact = false then 0b00000#5 else if tiny then 0b00011#5 else 0b00001#5 := by
  cases inexact <;> cases tiny <;> rfl

end

/-! ## The rounding of a quotient -/

section
variable {num den : ℕ} {exp : ℤ} {neg : Bool}

theorem ilog2_ratio_eq {l : ℤ} (hnum : 0 < num) (hden : 0 < den) (hlo : (2 : ℚ) ^ l ≤ absRatio num den exp)
    (hhi : absRatio num den exp < (2 : ℚ) ^ (l + 1)) : (Magnitude.ratio num den exp).ilog2 = l := by
  apply Magnitude.ilog2_eq (x := .ratio num den exp) ⟨hnum, hden⟩ <;> rw [← cast_absRatio]
  · simpa using (Rat.cast_le (K := ℝ)).2 hlo
  · simpa using (Rat.cast_lt (K := ℝ)).2 hhi

/-- The number of units of a unit `2^q`, with its sign. -/
theorem sign_ratioRat_div (hnum : 0 < num) (hden : 0 < den) (neg : Bool) (q : ℤ) :
    neg = decide (ratioRat neg num den exp / (2 : ℚ) ^ q < 0) := by
  have hpos : (0 : ℚ) < 2 ^ q := by positivity
  have hsign := ratioRat_neg_iff (exp := exp) hnum hden neg
  simpa [div_neg_iff, hpos, hpos.not_gt] using hsign

/-- The candidate that the mode chooses is the rounded cut. -/
theorem eq_signed_of_chosen (hnum : 0 < num) (hden : 0 < den) {mode : Mode} {q k : ℤ}
    (hk : Chosen mode (ratioRat neg num den exp) ((2 : ℚ) ^ q) k) :
    k = signed neg (((Magnitude.ratio num den exp).cut q).rounded mode neg) :=
  chosen_unique ((chosen_iff_div (by positivity)).1 hk)
    (chosen_signed (cut_at_ratioRat hden neg q) mode (sign_ratioRat_div hnum hden neg q))

/-- The chosen candidate is the number itself exactly when nothing is cut off. -/
theorem signed_mul_eq_iff (hnum : 0 < num) (hden : 0 < den) (mode : Mode) (q : ℤ) :
    ((signed neg (((Magnitude.ratio num den exp).cut q).rounded mode neg) : ℤ) : ℚ) * (2 : ℚ) ^ q =
      ratioRat neg num den exp ↔ ((Magnitude.ratio num den exp).cut q).inexact = false := by
  have hsign := sign_ratioRat_div (exp := exp) hnum hden neg q
  rw [← (cut_at_ratioRat (exp := exp) hden neg q).rounded_eq_iff mode neg, ← eq_div_iff (by positivity)]
  generalize ratioRat neg num den exp / (2 : ℚ) ^ q = y at hsign
  cases neg with
  | false => rw [abs_of_nonneg (by simpa using hsign.symm)]; simp [signed]
  | true => rw [abs_of_neg (by simpa using hsign.symm), ← neg_eq_iff_eq_neg]; simp [signed]

variable {fmt : Fmt} {mode : Mode} {u w : ℚ}

/-- The overflow clause of R145. -/
theorem roundReal_of_overflow (hnum : 0 < num) (hden : 0 < den)
    (h : (2 : ℚ) ^ (fmt.emax + 1) ≤ candidate fmt mode neg (.ratio num den exp) *
      (2 : ℚ) ^ quantum fmt (Magnitude.ratio num den exp).ilog2) :
    roundReal fmt mode neg (.ratio num den exp) = (overflowResult fmt mode neg, overflowFlags) := by
  have hpos : (Magnitude.ratio num den exp).Pos := ⟨hnum, hden⟩
  rw [roundReal_eq, if_pos ((two_pow_toNat_le_iff (quantum_le_or_one_le_candidate hpos mode neg)).2 h)]

/-- The result clause of R145 and the flags of R146. -/
theorem roundReal_of_not_overflow (hnum : 0 < num) (hden : 0 < den)
    (h : candidate fmt mode neg (.ratio num den exp) * (2 : ℚ) ^ quantum fmt (Magnitude.ratio num den exp).ilog2 <
      (2 : ℚ) ^ (fmt.emax + 1)) :
    let r := roundReal fmt mode neg (.ratio num den exp)
    let x := Magnitude.ratio num den exp
    isFinite r.1 = true ∧ signOf r.1 = neg ∧
      ratOf r.1 = (signed neg (candidate fmt mode neg x) : ℤ) * (2 : ℚ) ^ quantum fmt x.ilog2 ∧
      r.2 = roundingFlags (x.cut (quantum fmt x.ilog2)).inexact (isTiny fmt mode neg x) := by
  intro r x
  have hpos : x.Pos := ⟨hnum, hden⟩
  have hlt := fun h' => h.not_ge ((two_pow_toNat_le_iff (quantum_le_or_one_le_candidate hpos mode neg)).1 h')
  have hcand := isCandidate_candidate hpos (not_le.1 hlt)
  have hr : r = (pack fmt neg (encodeMag fmt (candidate fmt mode neg x) (quantum fmt x.ilog2)),
      roundingFlags (x.cut (quantum fmt x.ilog2)).inexact (isTiny fmt mode neg x)) :=
    (roundReal_eq fmt mode neg x).trans (if_neg hlt)
  rw [hr]
  refine ⟨hcand.isFinite_pack neg, hcand.signOf_pack neg, ?_, rfl⟩
  rw [ratOf_eq, hcand.signOf_pack, hcand.absOf_pack]
  cases neg <;> simp [signed]

theorem isTiny_iff (hnum : 0 < num) (hden : 0 < den) : isTiny fmt mode neg (.ratio num den exp) = true ↔
    (((Magnitude.ratio num den exp).cut ((Magnitude.ratio num den exp).ilog2 - fmt.fracBits)).rounded mode neg : ℚ) *
      (2 : ℚ) ^ ((Magnitude.ratio num den exp).ilog2 - fmt.fracBits) < (2 : ℚ) ^ fmt.emin := by
  have hpos : (Magnitude.ratio num den exp).Pos := ⟨hnum, hden⟩
  rw [isTiny, decide_eq_true_eq, ← not_le, ← not_le, not_iff_not]
  exact two_pow_toNat_le_iff (.inr (one_le_rounded_of_pos hpos mode neg))

end

/-- Settles O52: `ilog2` is the binade of the number, so `candidate` and the candidate of `isTiny` are the two choices. -/
theorem roundingIsCorrect : Obligations.RoundingIsCorrect := by
  intro fmt mode neg num den exp hnum hden l k j u w hlo hhi hk hj
  rw [abs_ratioRat] at hlo hhi
  obtain rfl := ilog2_ratio_eq hnum hden hlo hhi
  obtain rfl := eq_signed_of_chosen hnum hden hk
  obtain rfl := eq_signed_of_chosen hnum hden hj
  have habs (n : ℕ) (q : ℤ) : |((signed neg n : ℤ) : ℚ) * (2 : ℚ) ^ q| = n * (2 : ℚ) ^ q := by
    rw [abs_mul, abs_signed, abs_of_pos (by positivity)]
  rw [habs, habs, ← ratioRat_neg_iff hnum hden neg]
  refine ⟨fun hge => ?_, fun hlt => ?_⟩
  · have hnegIff : ratioRat neg num den exp < 0 ↔ neg = true := by
      conv_rhs => rw [ratioRat_neg_iff (exp := exp) hnum hden neg, decide_eq_true_eq]
    have hposIff : 0 < ratioRat neg num den exp ↔ neg = false := by
      have hne : ratioRat neg num den exp ≠ 0 := by
        rw [← abs_pos, abs_ratioRat]
        exact absRatio_pos hnum hden
      rw [← Bool.not_eq_true, ← hnegIff, not_lt, hne.symm.le_iff_lt]
    rw [roundReal_of_overflow hnum hden hge, hnegIff, hposIff]
    exact ⟨rfl, overflowResult_eq_infOf, overflowResult_eq_maxFiniteOf⟩
  · obtain ⟨hfin, hsign, hvalue, hflags⟩ := roundReal_of_not_overflow hnum hden hlt
    refine ⟨hfin, hsign, hvalue, ?_⟩
    rw [hflags, roundingFlags_eq]
    simp only [isTiny_iff hnum hden, ← signed_mul_eq_iff (neg := neg) hnum hden mode]
    rfl

end Sys2Proof.Machine


/-!
The operations on finite operands: the exact numbers they compute, and one rounding of each
(40_fp_common.md sections 6 and 9).
-/

namespace Sys2Proof.Machine

/-! ## Exact numbers -/

section
variable (x y : Dyad)

theorem Dyad.over_mul {e : ℤ} (h : e ≤ x.exp) : (x.over e : ℚ) * (2 : ℚ) ^ e = x.toRat := by
  rw [Dyad.over, toRat]
  push_cast
  rw [mul_assoc, ← zpow_natCast, Int.toNat_of_nonneg (by omega), ← zpow_add₀ two_ne_zero, sub_add_cancel]

theorem Dyad.toRat_add : (x.add y).toRat = x.toRat + y.toRat := by
  rw [← x.over_mul (min_le_left x.exp y.exp), ← y.over_mul (min_le_right x.exp y.exp), ← add_mul, ← Int.cast_add]
  rfl

theorem Dyad.toRat_mul : (x.mul y).toRat = x.toRat * y.toRat := by
  simp only [Dyad.mul, toRat, zpow_add₀ (two_ne_zero : (2 : ℚ) ≠ 0)]
  push_cast
  ring

theorem Dyad.toRat_neg : x.neg.toRat = -x.toRat := by
  simp [Dyad.neg, toRat]

theorem Dyad.toRat_negIf (c : Bool) : (x.negIf c).toRat = (if c then -1 else 1) * x.toRat := by
  cases c <;> simp [negIf, toRat_neg]

theorem Dyad.toRat_eq_zero_iff : x.toRat = 0 ↔ x.num = 0 := by
  have : (2 : ℚ) ^ x.exp ≠ 0 := by positivity
  simp [toRat, this]

theorem Dyad.toRat_eq_ratioRat : x.toRat = ratioRat (decide (x.num < 0)) x.num.natAbs 1 x.exp := by
  rw [ratioRat_eq, absRatio, toRat, Nat.cast_natAbs, Int.cast_abs, Nat.cast_one, div_one]
  by_cases h : x.num < 0
  · have h' : (x.num : ℚ) < 0 := by exact_mod_cast h
    simp [h, abs_of_neg h']
  · have h' : (0 : ℚ) ≤ x.num := by exact_mod_cast not_lt.1 h
    simp [h, abs_of_nonneg h']

theorem Dyad.add_symm : x.add y = y.add x := by
  simp only [Dyad.add, min_comm y.exp, Int.add_comm (y.over _)]

theorem Dyad.mul_symm : x.mul y = y.mul x := by
  simp only [Dyad.mul, Int.mul_comm y.num, Int.add_comm y.exp]

end

/-! ## Rounding the exact result -/

section
variable {fmt : Fmt} {mode : Mode}

/-- Nothing is asked of the rounding of zero. -/
theorem correctlyRounded_zero (r : Result fmt) : CorrectlyRounded fmt mode 0 r := by
  intro l k j u w hlo
  rw [abs_zero] at hlo
  exact absurd hlo (by positivity : (0 : ℚ) < 2 ^ l).not_ge

/-- A result that is rounded wherever the exact number is not zero. -/
theorem correctlyRounded_dyad {x : Dyad} {r : Result fmt} (h : x.num ≠ 0 → r = roundDyad fmt mode x) :
    CorrectlyRounded fmt mode x.toRat r := by
  by_cases hx : x.num = 0
  · rw [x.toRat_eq_zero_iff.2 hx]
    exact correctlyRounded_zero r
  · rw [h hx, x.toRat_eq_ratioRat]
    exact roundingIsCorrect fmt mode _ _ 1 x.exp (Int.natAbs_pos.2 hx) Nat.one_pos

end

/-! ## The sign of a pattern flipped (R150) -/

section
variable {fmt : Fmt} {v : Bits fmt}

theorem magOf_negate (v : Bits fmt) : magOf (negate v) = magOf v := by
  have hlt : 2 ^ (fmt.width - 1) < 2 ^ fmt.width := Nat.pow_lt_pow_right one_lt_two (Nat.sub_lt fmt.width_pos one_pos)
  rw [magOf, magOf, negate, BitVec.toNat_xor, BitVec.toNat_ofNat, Nat.xor_mod_two_pow, Nat.mod_eq_of_lt hlt,
    Nat.mod_self, Nat.xor_zero]

theorem signOf_negate (v : Bits fmt) : signOf (negate v) = !signOf v := by
  have hlt : 2 ^ (fmt.width - 1) < 2 ^ fmt.width := Nat.pow_lt_pow_right one_lt_two (Nat.sub_lt fmt.width_pos one_pos)
  have hbit : (BitVec.ofNat fmt.width (2 ^ (fmt.width - 1))).msb = true := by
    rw [BitVec.msb_eq_decide, BitVec.toNat_ofNat, Nat.mod_eq_of_lt hlt]
    simp
  rw [signOf, signOf, negate, BitVec.msb_xor, hbit, Bool.xor_true]

/-- The class of a pattern does not look at the sign, and its value does. -/
theorem isFinite_negate : isFinite (negate v) = isFinite v := by
  rw [Bool.eq_iff_iff, isFinite_iff, isFinite_iff, magOf_negate]

theorem isInf_negate : isInf (negate v) = isInf v := by
  rw [Bool.eq_iff_iff, isInf_iff, isInf_iff, magOf_negate]

theorem absOf_negate : absOf (negate v) = absOf v :=
  le_antisymm (absOf_le_of_magOf_le (magOf_negate v).le) (absOf_le_of_magOf_le (magOf_negate v).ge)

theorem ratOf_negate (v : Bits fmt) : ratOf (negate v) = -ratOf v := by
  rw [ratOf_eq, ratOf_eq, signOf_negate, absOf_negate]
  cases signOf v <;> simp

end

/-! ## The operations on finite operands -/

section
variable {fmt : Fmt} {a b c : Bits fmt} (mode : Mode)

theorem fadd_of_isFinite (ha : isFinite a = true) (hb : isFinite b = true) :
    fadd fmt mode a b = if ((valueOf a).add (valueOf b)).num = 0 then
        (if signOf a == signOf b then zeroOf fmt (signOf a) else cancelledZero fmt mode, noFlags)
      else roundDyad fmt mode ((valueOf a).add (valueOf b)) := by
  simp [fadd, isNaN_of_isFinite ha, isNaN_of_isFinite hb, isInf_of_isFinite ha, isInf_of_isFinite hb]

theorem fsub_of_not_isNaN (ha : isNaN a = false) (hb : isNaN b = false) :
    fsub fmt mode a b = fadd fmt mode a (negate b) := by
  simp [fsub, ha, hb]

theorem fmul_of_isFinite (ha : isFinite a = true) (hb : isFinite b = true) :
    fmul fmt mode a b = if isZero a || isZero b then (zeroOf fmt (signOf a ^^ signOf b), noFlags)
      else roundDyad fmt mode ((valueOf a).mul (valueOf b)) := by
  simp [fmul, isNaN_of_isFinite ha, isNaN_of_isFinite hb, isInf_of_isFinite ha, isInf_of_isFinite hb]

theorem fdiv_of_isFinite (ha : isFinite a = true) (hb : isFinite b = true) (hz : isZero b = false) :
    fdiv fmt mode a b = if isZero a then (zeroOf fmt (signOf a ^^ signOf b), noFlags)
      else roundReal fmt mode (signOf a ^^ signOf b) (.ratio (sigOf a) (sigOf b) (unitOf a - unitOf b)) := by
  simp [fdiv, isNaN_of_isFinite ha, isNaN_of_isFinite hb, isInf_of_isFinite ha, isInf_of_isFinite hb, hz]

/-- The exact number of a fused operation (R154). -/
def fmaDyad (p q : Bool) (a b c : Bits fmt) : Dyad :=
  (((valueOf a).mul (valueOf b)).negIf p).add ((valueOf c).negIf q)

theorem ffma_of_isFinite (p q : Bool) (ha : isFinite a = true) (hb : isFinite b = true) (hc : isFinite c = true) :
    ffma fmt p q mode a b c = if (fmaDyad p q a b c).num = 0 then
        (if (((valueOf a).mul (valueOf b)).negIf p).num = 0 && ((signOf a ^^ signOf b) ^^ p) == (signOf c ^^ q) then
          zeroOf fmt ((signOf a ^^ signOf b) ^^ p) else cancelledZero fmt mode, noFlags)
      else roundDyad fmt mode (fmaDyad p q a b c) := by
  simp [ffma, fmaDyad, isNaN_of_isFinite ha, isNaN_of_isFinite hb, isNaN_of_isFinite hc, isInf_of_isFinite ha,
    isInf_of_isFinite hb, isInf_of_isFinite hc]

theorem fcvtFf_of_isFinite (dst : Fmt) (ha : isFinite a = true) :
    fcvtFf dst fmt mode a = if isZero a then (zeroOf dst (signOf a), noFlags) else roundDyad dst mode (valueOf a) := by
  simp [fcvtFf, isNaN_of_isFinite ha, isInf_of_isFinite ha]

theorem valueOf_num_eq_zero_iff : (valueOf a).num = 0 ↔ isZero a = true := by
  rw [← Dyad.toRat_eq_zero_iff]
  exact ratOf_eq_zero_iff

theorem toRat_fmaDyad (p q : Bool) (a b c : Bits fmt) :
    (fmaDyad p q a b c).toRat =
      (if p = true then -1 else 1) * (ratOf a * ratOf b) + (if q = true then -1 else 1) * ratOf c := by
  rw [fmaDyad, Dyad.toRat_add, Dyad.toRat_negIf, Dyad.toRat_negIf, Dyad.toRat_mul]
  rfl

/-! ## One rounding each -/

theorem correctlyRounded_fadd (ha : isFinite a = true) (hb : isFinite b = true) :
    CorrectlyRounded fmt mode (ratOf a + ratOf b) (fadd fmt mode a b) := by
  have hsum : ratOf a + ratOf b = ((valueOf a).add (valueOf b)).toRat := (Dyad.toRat_add _ _).symm
  rw [hsum]
  exact correctlyRounded_dyad fun h => (fadd_of_isFinite mode ha hb).trans (if_neg h)

theorem correctlyRounded_fsub (ha : isFinite a = true) (hb : isFinite b = true) :
    CorrectlyRounded fmt mode (ratOf a - ratOf b) (fsub fmt mode a b) := by
  rw [fsub_of_not_isNaN mode (isNaN_of_isFinite ha) (isNaN_of_isFinite hb), sub_eq_add_neg, ← ratOf_negate]
  exact correctlyRounded_fadd mode ha (isFinite_negate.trans hb)

theorem correctlyRounded_fmul (ha : isFinite a = true) (hb : isFinite b = true) :
    CorrectlyRounded fmt mode (ratOf a * ratOf b) (fmul fmt mode a b) := by
  have hprod : ratOf a * ratOf b = ((valueOf a).mul (valueOf b)).toRat := (Dyad.toRat_mul _ _).symm
  rw [hprod]
  refine correctlyRounded_dyad fun h => (fmul_of_isFinite mode ha hb).trans (if_neg fun hz => h ?_)
  rw [← Dyad.toRat_eq_zero_iff, ← hprod, mul_eq_zero, ratOf_eq_zero_iff, ratOf_eq_zero_iff]
  simpa using hz

/-- A quotient of two numbers of the format, by sign and magnitude. -/
theorem ratOf_div (a b : Bits fmt) :
    ratOf a / ratOf b = ratioRat (signOf a ^^ signOf b) (sigOf a) (sigOf b) (unitOf a - unitOf b) := by
  have habs : absOf a / absOf b = absRatio (sigOf a) (sigOf b) (unitOf a - unitOf b) := by
    rw [absOf, absOf, absRatio, zpow_sub₀ two_ne_zero, mul_div_mul_comm]
  rw [ratioRat_eq, ← habs, ratOf_eq, ratOf_eq]
  cases signOf a <;> cases signOf b <;> simp [neg_div, div_neg]

theorem correctlyRounded_fdiv (ha : isFinite a = true) (hb : isFinite b = true) (hz : isZero b = false) :
    CorrectlyRounded fmt mode (ratOf a / ratOf b) (fdiv fmt mode a b) := by
  rw [fdiv_of_isFinite mode ha hb hz]
  split
  next hza =>
    rw [ratOf_eq_zero_iff.2 hza, zero_div]
    exact correctlyRounded_zero _
  next hza =>
    rw [ratOf_div]
    exact roundingIsCorrect fmt mode _ _ _ _ (sigOf_pos (Bool.eq_false_iff.2 hza)) (sigOf_pos hz)

theorem correctlyRounded_ffma (p q : Bool) (ha : isFinite a = true) (hb : isFinite b = true)
    (hc : isFinite c = true) :
    CorrectlyRounded fmt mode
      ((if p = true then -1 else 1) * (ratOf a * ratOf b) + (if q = true then -1 else 1) * ratOf c)
      (ffma fmt p q mode a b c) := by
  rw [← toRat_fmaDyad]
  exact correctlyRounded_dyad fun h => (ffma_of_isFinite mode p q ha hb hc).trans (if_neg h)

theorem correctlyRounded_fcvtFf (dst : Fmt) (ha : isFinite a = true) :
    CorrectlyRounded dst mode (ratOf a) (fcvtFf dst fmt mode a) :=
  correctlyRounded_dyad fun h =>
    (fcvtFf_of_isFinite mode dst ha).trans (if_neg fun hz => h (valueOf_num_eq_zero_iff.2 hz))

theorem correctlyRounded_fcvtFp (n : ℤ) : CorrectlyRounded fmt mode n (fcvtFp fmt mode n) := by
  have hvalue : (n : ℚ) = (⟨n, 0⟩ : Dyad).toRat := by simp [Dyad.toRat]
  rw [hvalue]
  exact correctlyRounded_dyad fun h => if_neg h

end

/-- Settles O53: each operation rounds a dyad, or a quotient, that is the exact result. -/
theorem operationsAreCorrectlyRounded : Obligations.OperationsAreCorrectlyRounded := by
  intro fmt dst mode a b c n ha hb hc
  have hfma (p q : Bool) := correctlyRounded_ffma mode p q ha hb hc
  refine ⟨correctlyRounded_fadd mode ha hb, correctlyRounded_fsub mode ha hb, correctlyRounded_fmul mode ha hb,
    correctlyRounded_fdiv mode ha hb, ?_, ?_, ?_, ?_, correctlyRounded_fcvtFf mode dst ha,
    correctlyRounded_fcvtFp mode n⟩
  · simpa using hfma false false
  · simpa [sub_eq_add_neg] using hfma false true
  · simpa using hfma true false
  · simpa [sub_eq_add_neg] using hfma true true

end Sys2Proof.Machine


/-!
Special operands: NaNs, invalid operations, infinities, divisions by zero and exact zeros
(40_fp_common.md sections 5, 6 and 9).
-/

namespace Sys2Proof.Machine

/-! ## The classes exclude each other (R131) -/

section
variable {fmt : Fmt} {v : Bits fmt}

theorem isFinite_of_isZero (h : isZero v = true) : isFinite v = true := by
  have hpos : 0 < fmt.infMag := Nat.mul_pos (two_pos.trans_le fmt.two_le_expMax) (by positivity)
  rw [isFinite_iff, (isZero_iff v).1 h]
  exact hpos

theorem isZero_of_isInf (h : isInf v = true) : isZero v = false := by
  rw [← Bool.not_eq_true]
  intro hz
  rw [isInf_of_isFinite (isFinite_of_isZero hz)] at h
  cases h

theorem isInf_of_isZero (h : isZero v = true) : isInf v = false := isInf_of_isFinite (isFinite_of_isZero h)

/-- An infinity is the infinity of its sign. -/
theorem eq_infOf_of_isInf (h : isInf v = true) : v = infOf fmt (signOf v) := by
  rw [infOf, ← (isInf_iff v).1 h, pack_signOf_magOf]

theorem signOf_infOf (neg : Bool) : signOf (infOf fmt neg) = neg :=
  signOf_pack ((Nat.le_add_right _ _).trans_lt fmt.infMag_add_lt)

theorem magOf_infOf (neg : Bool) : magOf (infOf fmt neg) = fmt.infMag :=
  magOf_pack ((Nat.le_add_right _ _).trans_lt fmt.infMag_add_lt)

theorem negate_of_isInf (h : isInf v = true) : negate v = infOf fmt (!signOf v) := by
  rw [eq_infOf_of_isInf (isInf_negate.trans h), signOf_negate]

end

theorem flagIf_NV (c : Bool) : flagIf c NV = if c = true then 0b10000#5 else 0#5 := rfl

/-! ## NaN operands (R149) -/

section
variable {fmt : Fmt} {a b c : Bits fmt} (mode : Mode)

theorem nanResult2_eq (a b : Bits fmt) :
    nanResult2 fmt a b = (cnan fmt, if isSNaN a = true ∨ isSNaN b = true then 0b10000#5 else 0#5) := by
  simp [nanResult2, flagIf_NV]

/-- The four operations of two operands with a NaN. -/
theorem eq_nanResult2_of_isNaN (h : isNaN a = true ∨ isNaN b = true) :
    fadd fmt mode a b = nanResult2 fmt a b ∧ fsub fmt mode a b = nanResult2 fmt a b ∧
      fmul fmt mode a b = nanResult2 fmt a b ∧ fdiv fmt mode a b = nanResult2 fmt a b := by
  have hor : (isNaN a || isNaN b) = true := by simpa using h
  exact ⟨if_pos hor, if_pos hor, if_pos hor, if_pos hor⟩

theorem fsqrt_of_isNaN (h : isNaN a = true) :
    fsqrt fmt mode a = (cnan fmt, if isSNaN a = true then 0b10000#5 else 0#5) := if_pos h

theorem fcvtFf_of_isNaN (dst : Fmt) (h : isNaN a = true) :
    fcvtFf dst fmt mode a = (cnan dst, if isSNaN a = true then 0b10000#5 else 0#5) := if_pos h

theorem ffma_of_isNaN (p q : Bool) (h : isNaN a = true ∨ isNaN b = true ∨ isNaN c = true) :
    ffma fmt p q mode a b c = (cnan fmt,
      if isSNaN a = true ∨ isSNaN b = true ∨ isSNaN c = true ∨ (isInf a = true ∧ isZero b = true) ∨
        (isZero a = true ∧ isInf b = true) then 0b10000#5 else 0#5) := by
  have hor : (isNaN a || isNaN b || isNaN c) = true := by simpa [or_assoc] using h
  refine (if_pos hor).trans ?_
  simp only [flagIf_NV, Bool.or_eq_true, Bool.and_eq_true, or_assoc]

/-! ## Infinities (R150 to R154, R163) -/

theorem fadd_of_isInf (ha : isInf a = true) (hb : isInf b = true) :
    fadd fmt mode a b = if signOf a = signOf b then (a, 0#5) else (cnan fmt, 0b10000#5) := by
  simp [fadd, isNaN_of_isInf, ha, hb, invalidResult, noFlags, NV]

theorem fadd_of_isInf_left (ha : isInf a = true) (hb : isFinite b = true) : fadd fmt mode a b = (a, 0#5) := by
  simp [fadd, isNaN_of_isInf, ha, isNaN_of_isFinite hb, isInf_of_isFinite hb, noFlags]

theorem fadd_of_isInf_right (ha : isFinite a = true) (hb : isInf b = true) : fadd fmt mode a b = (b, 0#5) := by
  simp [fadd, isNaN_of_isInf, hb, isNaN_of_isFinite ha, isInf_of_isFinite ha, noFlags]

theorem fsub_of_isInf (ha : isInf a = true) (hb : isInf b = true) :
    fsub fmt mode a b = if signOf a = signOf b then (cnan fmt, 0b10000#5) else (a, 0#5) := by
  rw [fsub_of_not_isNaN mode (isNaN_of_isInf ha) (isNaN_of_isInf hb), fadd_of_isInf mode ha (isInf_negate.trans hb),
    signOf_negate]
  cases signOf a <;> cases signOf b <;> rfl

theorem fsub_of_isInf_left (ha : isInf a = true) (hb : isFinite b = true) : fsub fmt mode a b = (a, 0#5) := by
  rw [fsub_of_not_isNaN mode (isNaN_of_isInf ha) (isNaN_of_isFinite hb)]
  exact fadd_of_isInf_left mode ha (isFinite_negate.trans hb)

theorem fsub_of_isInf_right (ha : isFinite a = true) (hb : isInf b = true) :
    fsub fmt mode a b = (infOf fmt (!signOf b), 0#5) := by
  rw [fsub_of_not_isNaN mode (isNaN_of_isFinite ha) (isNaN_of_isInf hb), ← negate_of_isInf hb]
  exact fadd_of_isInf_right mode ha (isInf_negate.trans hb)

theorem fdiv_of_isInf_left (ha : isInf a = true) (hb : isFinite b = true) :
    fdiv fmt mode a b = (infOf fmt (signOf a != signOf b), 0#5) := by
  simp [fdiv, isNaN_of_isInf, ha, isNaN_of_isFinite hb, isInf_of_isFinite hb, noFlags]

theorem fdiv_of_isInf_right (ha : isFinite a = true) (hb : isInf b = true) :
    fdiv fmt mode a b = (zeroOf fmt (signOf a != signOf b), 0#5) := by
  simp [fdiv, isNaN_of_isInf, hb, isNaN_of_isFinite ha, isInf_of_isFinite ha, noFlags]

/-- Zero over zero and infinity over infinity (R152). -/
theorem fdiv_invalid (h : (isZero a = true ∧ isZero b = true) ∨ (isInf a = true ∧ isInf b = true)) :
    fdiv fmt mode a b = (cnan fmt, 0b10000#5) := by
  obtain ⟨ha, hb⟩ | ⟨ha, hb⟩ := h
  · simp [fdiv, isNaN_of_isZero, isInf_of_isZero, ha, hb, invalidResult, NV]
  · simp [fdiv, isNaN_of_isInf, ha, hb, invalidResult, NV]

/-- A number that is not zero over zero (R152). -/
theorem fdiv_by_zero (ha : isFinite a = true) (hza : isZero a = false) (hb : isZero b = true) :
    fdiv fmt mode a b = (infOf fmt (signOf a != signOf b), 0b01000#5) := by
  simp [fdiv, isNaN_of_isFinite ha, isInf_of_isFinite ha, hza, isNaN_of_isZero, isInf_of_isZero, hb, DZ]

/-- Zero times infinity (R151, R154). -/
theorem fmul_invalid (h : (isInf a = true ∧ isZero b = true) ∨ (isZero a = true ∧ isInf b = true)) :
    fmul fmt mode a b = (cnan fmt, 0b10000#5) := by
  obtain ⟨ha, hb⟩ | ⟨ha, hb⟩ := h <;> simp [fmul, isNaN_of_isInf, isNaN_of_isZero, ha, hb, invalidResult, NV]

theorem ffma_invalid (p q : Bool) (h : (isInf a = true ∧ isZero b = true) ∨ (isZero a = true ∧ isInf b = true)) :
    ffma fmt p q mode a b c = (cnan fmt, 0b10000#5) := by
  obtain ⟨ha, hb⟩ | ⟨ha, hb⟩ := h <;>
    simp [ffma, isNaN_of_isInf, isNaN_of_isZero, ha, hb, invalidResult, flagIf, NV]

/-- An infinite product (R151). -/
theorem fmul_of_isInf (ha : isNaN a = false) (hb : isNaN b = false) (hza : isZero a = false) (hzb : isZero b = false)
    (h : isInf a = true ∨ isInf b = true) : fmul fmt mode a b = (infOf fmt (signOf a != signOf b), 0#5) := by
  simp [fmul, ha, hb, hza, hzb, h, noFlags]


/-- An infinite product with an addend (R154). -/
theorem ffma_of_isInf_product (p q : Bool) (ha : isNaN a = false) (hb : isNaN b = false) (hza : isZero a = false)
    (hzb : isZero b = false) (h : isInf a = true ∨ isInf b = true) (hc : isNaN c = false) :
    ffma fmt p q mode a b c =
      if isInf c = true ∧ ((signOf a != signOf b) != p) ≠ (signOf c != q) then (cnan fmt, 0b10000#5)
      else (infOf fmt ((signOf a != signOf b) != p), 0#5) := by
  by_cases hs : ((signOf a != signOf b) != p) = (signOf c != q)
  · simp [ffma, ha, hb, hza, hzb, h, hc, hs, noFlags]
  · have hbne : ((signOf c != q) != ((signOf a != signOf b) != p)) = true := bne_iff_ne.2 (Ne.symm hs)
    have hor : (isInf a || isInf b) = true := by simpa using h
    simp only [ffma, ha, hb, hza, hzb, hor, hc, hbne, Bool.or_self, Bool.and_false, Bool.and_true, ne_eq, hs,
      not_false_eq_true, and_true, noFlags, invalidResult, NV]
    rfl

/-- An infinite addend (R154). -/
theorem ffma_of_isInf_addend (p q : Bool) (ha : isFinite a = true) (hb : isFinite b = true) (hc : isInf c = true) :
    ffma fmt p q mode a b c = (infOf fmt (signOf c != q), 0#5) := by
  simp [ffma, isNaN_of_isFinite ha, isNaN_of_isFinite hb, isInf_of_isFinite ha, isInf_of_isFinite hb,
    isNaN_of_isInf hc, hc, noFlags]

/-- The root of a negative number (R153). -/
theorem fsqrt_invalid (ha : isNaN a = false) (hz : isZero a = false) (hs : signOf a = true) :
    fsqrt fmt mode a = (cnan fmt, 0b10000#5) := by
  simp [fsqrt, ha, hz, hs, invalidResult, NV]

theorem fsqrt_of_isInf (ha : isInf a = true) (hs : signOf a = false) : fsqrt fmt mode a = (a, 0#5) := by
  simp [fsqrt, isNaN_of_isInf, isZero_of_isInf, ha, hs, noFlags]

theorem fcvtFf_of_isInf (dst : Fmt) (ha : isInf a = true) : fcvtFf dst fmt mode a = (infOf dst (signOf a), 0#5) := by
  simp [fcvtFf, isNaN_of_isInf, ha, noFlags]

end

/-- Settles O56: each clause by the branch of the operation that it describes. -/
theorem naNsInvalidOperationsAndInfinities : Obligations.NaNsInvalidOperationsAndInfinities := by
  intro fmt dst mode p q a b c xs sp sc
  refine ⟨fun h r hr => ?_, fun h => ⟨fsqrt_of_isNaN mode h, fcvtFf_of_isNaN mode dst h⟩, ffma_of_isNaN mode p q,
    fun ha hb => ⟨fadd_of_isInf mode ha hb, fsub_of_isInf mode ha hb⟩, fun ha hb => ?_,
    fun h => ⟨fmul_invalid mode h, ffma_invalid mode p q h⟩,
    fun ha hb hza hzb h => ⟨fmul_of_isInf mode ha hb hza hzb h, ffma_of_isInf_product mode p q ha hb hza hzb h⟩,
    ffma_of_isInf_addend mode p q, fdiv_invalid mode, fdiv_by_zero mode, fsqrt_invalid mode,
    fun ha => ⟨fsqrt_of_isInf mode ha, fcvtFf_of_isInf mode dst ha⟩⟩
  · obtain ⟨hadd, hsub, hmul, hdiv⟩ := eq_nanResult2_of_isNaN mode h
    rw [← nanResult2_eq]
    simp only [List.mem_cons, List.not_mem_nil, or_false] at hr
    obtain rfl | rfl | rfl | rfl := hr
    · exact hadd
    · exact hsub
    · exact hmul
    · exact hdiv
  · have hflip : (signOf b != signOf a) = xs := bne_comm
    refine ⟨fadd_of_isInf_left mode ha hb, fadd_of_isInf_right mode hb ha, fsub_of_isInf_left mode ha hb,
      fsub_of_isInf_right mode hb ha, fdiv_of_isInf_left mode ha hb, ?_⟩
    rw [← hflip]
    exact fdiv_of_isInf_right mode hb ha

/-! ## Exact zeros (R150 to R154, R162, R163) -/

section
variable {fmt : Fmt} {a b c : Bits fmt} (mode : Mode)

theorem cancelledZero_eq (fmt : Fmt) (mode : Mode) : cancelledZero fmt mode = zeroOf fmt (decide (mode = .rdn)) := by
  cases mode <;> rfl

theorem fadd_of_sum_eq_zero (ha : isFinite a = true) (hb : isFinite b = true) (h : ratOf a + ratOf b = 0) :
    fadd fmt mode a b = if signOf a = signOf b then (zeroOf fmt (signOf a), 0#5)
      else (zeroOf fmt (decide (mode = .rdn)), 0#5) := by
  have hnum : ((valueOf a).add (valueOf b)).num = 0 := by
    rw [← Dyad.toRat_eq_zero_iff, Dyad.toRat_add]
    exact h
  rw [fadd_of_isFinite mode ha hb, if_pos hnum, cancelledZero_eq]
  by_cases hs : signOf a = signOf b <;> simp [hs, noFlags]

theorem fsub_of_difference_eq_zero (ha : isFinite a = true) (hb : isFinite b = true) (h : ratOf a - ratOf b = 0) :
    fsub fmt mode a b = if signOf a = signOf b then (zeroOf fmt (decide (mode = .rdn)), 0#5)
      else (zeroOf fmt (signOf a), 0#5) := by
  rw [sub_eq_add_neg, ← ratOf_negate] at h
  rw [fsub_of_not_isNaN mode (isNaN_of_isFinite ha) (isNaN_of_isFinite hb),
    fadd_of_sum_eq_zero mode ha (isFinite_negate.trans hb) h, signOf_negate]
  cases signOf a <;> cases signOf b <;> rfl

theorem product_num_eq_zero_iff (p : Bool) :
    (((valueOf a).mul (valueOf b)).negIf p).num = 0 ↔ isZero a = true ∨ isZero b = true := by
  rw [← Dyad.toRat_eq_zero_iff, Dyad.toRat_negIf, Dyad.toRat_mul, ← ratOf_eq_zero_iff, ← ratOf_eq_zero_iff, mul_eq_zero,
    mul_eq_zero]
  refine or_iff_right ?_
  split <;> norm_num

theorem ffma_of_eq_zero (p q : Bool) (ha : isFinite a = true) (hb : isFinite b = true) (hc : isFinite c = true)
    (h : (if p = true then -1 else 1) * (ratOf a * ratOf b) + (if q = true then -1 else 1) * ratOf c = 0) :
    ffma fmt p q mode a b c =
      if (isZero a = true ∨ isZero b = true) ∧ ((signOf a != signOf b) != p) = (signOf c != q) then
        (zeroOf fmt ((signOf a != signOf b) != p), 0#5)
      else (zeroOf fmt (decide (mode = .rdn)), 0#5) := by
  rw [← toRat_fmaDyad, Dyad.toRat_eq_zero_iff] at h
  rw [ffma_of_isFinite mode p q ha hb hc, if_pos h, cancelledZero_eq]
  simp only [product_num_eq_zero_iff, Bool.and_eq_true, decide_eq_true_eq, beq_iff_eq]
  exact apply_ite (fun v => (v, noFlags)) _ _ _

theorem fmul_of_isZero (ha : isFinite a = true) (hb : isFinite b = true) (h : isZero a = true ∨ isZero b = true) :
    fmul fmt mode a b = (zeroOf fmt (signOf a != signOf b), 0#5) :=
  (fmul_of_isFinite mode ha hb).trans (if_pos (by simpa using h))

theorem fdiv_of_isZero (ha : isZero a = true) (hb : isFinite b = true) (hz : isZero b = false) :
    fdiv fmt mode a b = (zeroOf fmt (signOf a != signOf b), 0#5) :=
  (fdiv_of_isFinite mode (isFinite_of_isZero ha) hb hz).trans (if_pos ha)

theorem fsqrt_of_isZero (ha : isZero a = true) : fsqrt fmt mode a = (a, 0#5) := by
  simp [fsqrt, isNaN_of_isZero, ha, noFlags]

theorem fcvtFf_of_isZero (dst : Fmt) (ha : isZero a = true) : fcvtFf dst fmt mode a = (zeroOf dst (signOf a), 0#5) :=
  (fcvtFf_of_isFinite mode dst (isFinite_of_isZero ha)).trans (if_pos ha)

/-! ## Commutativity -/

theorem nanResult2_comm (a b : Bits fmt) : nanResult2 fmt a b = nanResult2 fmt b a := by
  rw [nanResult2, nanResult2, Bool.or_comm]

theorem fadd_comm (a b : Bits fmt) : fadd fmt mode a b = fadd fmt mode b a := by
  by_cases hnan : isNaN a = true ∨ isNaN b = true
  · rw [(eq_nanResult2_of_isNaN mode hnan).1, (eq_nanResult2_of_isNaN mode hnan.symm).1, nanResult2_comm]
  rw [not_or, Bool.not_eq_true, Bool.not_eq_true] at hnan
  obtain ⟨hna, hnb⟩ := hnan
  cases ha : isInf a <;> cases hb : isInf b
  case false.false =>
    have hfa := isFinite_of_not_isNaN_isInf hna ha
    have hfb := isFinite_of_not_isNaN_isInf hnb hb
    rw [fadd_of_isFinite mode hfa hfb, fadd_of_isFinite mode hfb hfa, Dyad.add_symm]
    by_cases hs : signOf a = signOf b
    · rw [hs]
    · simp [hs, Ne.symm hs]
  case false.true =>
    have hfa := isFinite_of_not_isNaN_isInf hna ha
    rw [fadd_of_isInf_right mode hfa hb, fadd_of_isInf_left mode hb hfa]
  case true.false =>
    have hfb := isFinite_of_not_isNaN_isInf hnb hb
    rw [fadd_of_isInf_left mode ha hfb, fadd_of_isInf_right mode hfb ha]
  case true.true =>
    rw [fadd_of_isInf mode ha hb, fadd_of_isInf mode hb ha]
    by_cases hs : signOf a = signOf b
    · rw [eq_of_signOf_magOf hs (((isInf_iff a).1 ha).trans ((isInf_iff b).1 hb).symm)]
    · rw [if_neg hs, if_neg (Ne.symm hs)]

theorem fmul_comm (a b : Bits fmt) : fmul fmt mode a b = fmul fmt mode b a := by
  simp only [fmul, Bool.xor_comm (signOf b), Bool.or_comm (isNaN b), Bool.or_comm (isInf b), Bool.or_comm (isZero b),
    Dyad.mul_symm (valueOf b), nanResult2_comm b a, Bool.and_comm (isInf b), Bool.and_comm (isZero b),
    Bool.or_comm (isZero a && isInf b)]

theorem ffma_comm (p q : Bool) (a b c : Bits fmt) : ffma fmt p q mode a b c = ffma fmt p q mode b a c := by
  simp only [ffma, Bool.xor_comm (signOf b), Bool.or_comm (isNaN b), Bool.or_comm (isInf b), Dyad.mul_symm (valueOf b),
    Bool.and_comm (isInf b), Bool.and_comm (isZero b),
    Bool.or_comm (isZero a && isInf b), Bool.or_comm (isSNaN b)]

end

/-- Settles O57: an exact result of zero is the zero branch of its operation. -/
theorem exactZeroResults : Obligations.ExactZeroResults := by
  intro fmt dst mode p q a b c cancelled xs sp sc
  refine ⟨fun ha hb => ⟨fadd_of_sum_eq_zero mode ha hb, fsub_of_difference_eq_zero mode ha hb,
    ffma_of_eq_zero mode p q ha hb, fmul_of_isZero mode ha hb, fun hza hzb => fdiv_of_isZero mode hza hb hzb⟩,
    fun hza => ⟨fsqrt_of_isZero mode hza, fcvtFf_of_isZero mode dst hza⟩, rfl, fadd_comm mode a b, fmul_comm mode a b,
    ffma_comm mode p q a b c⟩

end Sys2Proof.Machine


/-!
Exact results: a number that the format has is rounded to itself, so widening conversions and conversions of small
integers are exact, and rounding to an integral value delivers the chosen integer (40_fp_common.md sections 9 and 10).
-/

namespace Sys2Proof.Machine

/-! ## A pattern is determined by its sign and its value -/

section
variable {fmt : Fmt} {a b : Bits fmt}

theorem absOf_lt_of_magOf_lt (h : magOf a < magOf b) : absOf a < absOf b := by
  have hexp : expOf a ≤ expOf b := by
    rw [expOf_eq_magOf_div, expOf_eq_magOf_div]
    exact Nat.div_le_div_right h.le
  obtain heq | hlt := hexp.eq_or_lt
  · have hfrac : fracOf a < fracOf b := by
      rw [magOf_eq, magOf_eq, heq] at h
      omega
    have hsig : sigOf a < sigOf b := by
      simp only [sigOf, heq]
      split <;> omega
    have hunit : unitOf a = unitOf b := by simp only [unitOf, heq]
    rw [absOf, absOf, hunit]
    gcongr
  · calc absOf a < (2 : ℚ) ^ ((expOf a : ℤ) + 1 - fmt.bias) := absOf_lt a
      _ ≤ (2 : ℚ) ^ ((expOf b : ℤ) - fmt.bias) := zpow_le_zpow_right₀ one_le_two (by omega)
      _ ≤ absOf b := le_absOf (by omega)

theorem eq_of_signOf_ratOf (hs : signOf a = signOf b) (h : ratOf a = ratOf b) : a = b := by
  have habs : absOf a = absOf b := by rw [← abs_ratOf, ← abs_ratOf, h]
  refine eq_of_signOf_magOf hs (le_antisymm ?_ ?_)
  · exact not_lt.1 fun hlt => (absOf_lt_of_magOf_lt hlt).ne' habs
  · exact not_lt.1 fun hlt => (absOf_lt_of_magOf_lt hlt).ne habs

theorem signOf_eq_decide (hz : isZero a = false) : signOf a = decide (ratOf a < 0) := by
  have hpos := absOf_pos_iff.2 hz
  rw [ratOf_eq]
  cases signOf a
  · simp [hpos.le]
  · simp [hpos]

end

/-! ## The numbers of a format -/

/-- The numbers that a format has: p significant bits, no unit below the least one, and no overflow (R130, R131). -/
def Fmt.Has (fmt : Fmt) (x : ℚ) : Prop :=
  (∃ d : Dyad, d.toRat = x ∧ |d.num| < 2 ^ (fmt.fracBits + 1) ∧ fmt.emin - fmt.fracBits ≤ d.exp) ∧
    |x| < (2 : ℚ) ^ (fmt.emax + 1)

section
variable {fmt dst : Fmt} {mode : Mode} {x : ℚ}

theorem abs_num_valueOf (v : Bits fmt) : |(valueOf v).num| = sigOf v := by
  rw [valueOf]
  cases signOf v <;> simp

theorem sigOf_lt (v : Bits fmt) : sigOf v < 2 ^ (fmt.fracBits + 1) := by
  have := fracOf_lt v
  rw [sigOf, pow_succ]
  split <;> omega

theorem Fmt.has_ratOf {v : Bits fmt} (h : isFinite v = true) : fmt.Has (ratOf v) := by
  refine ⟨⟨valueOf v, rfl, ?_, ?_⟩, ?_⟩
  · rw [abs_num_valueOf]
    exact_mod_cast sigOf_lt v
  · change fmt.emin - fmt.fracBits ≤ unitOf v
    rw [unitOf, Fmt.emin]
    omega
  · rw [abs_ratOf]
    exact absOf_lt_two_zpow h

/-- Small integers are numbers of every format. -/
theorem Fmt.has_intCast {n : ℤ} (h : |n| < 2 ^ (fmt.fracBits + 1)) : fmt.Has n := by
  have hbias := fmt.fracBits_lt_bias
  refine ⟨⟨⟨n, 0⟩, by simp [Dyad.toRat], h, ?_⟩, ?_⟩
  · change fmt.emin - fmt.fracBits ≤ 0
    have hpos := fmt.one_lt_bias
    rw [Fmt.emin]
    omega
  · have hcast : |(n : ℚ)| < 2 ^ (fmt.fracBits + 1) := by exact_mod_cast h
    refine hcast.trans_le ?_
    rw [← zpow_natCast]
    exact zpow_le_zpow_right₀ one_le_two (by rw [Fmt.emax]; push_cast; omega)

/-- A format with more bits, lower units and a higher overflow has every number. -/
theorem Fmt.Has.mono (h : fmt.Has x) (hbits : fmt.fracBits ≤ dst.fracBits)
    (hunit : dst.emin - dst.fracBits ≤ fmt.emin - fmt.fracBits) (hmax : fmt.emax ≤ dst.emax) : dst.Has x := by
  obtain ⟨⟨d, hd, hnum, hexp⟩, hlt⟩ := h
  exact ⟨⟨d, hd, hnum.trans_le (pow_le_pow_right₀ one_le_two (by omega)), hunit.trans hexp⟩,
    hlt.trans_le (zpow_le_zpow_right₀ one_le_two (by omega))⟩

/-- A result that is the number `x` itself, with a sign and no flag. -/
def IsExact (r : Result fmt) (neg : Bool) (x : ℚ) : Prop :=
  isFinite r.1 = true ∧ signOf r.1 = neg ∧ ratOf r.1 = x ∧ r.2 = 0#5

theorem isExact_zeroOf (neg : Bool) : IsExact (zeroOf fmt neg, noFlags) neg 0 := by
  have hz : isZero (zeroOf fmt neg) = true := (isZero_iff _).2 magOf_zeroOf
  exact ⟨isFinite_of_isZero hz, signOf_zeroOf, ratOf_eq_zero_iff.2 hz, rfl⟩

/-- A number of the format is its own candidate, whatever the mode. -/
theorem isExact_of_correctlyRounded {r : Result fmt} (h : CorrectlyRounded fmt mode x r) (hx : fmt.Has x)
    (hne : x ≠ 0) : IsExact r (decide (x < 0)) x := by
  obtain ⟨⟨d, rfl, hnum, hexp⟩, hlt⟩ := hx
  obtain ⟨l, hlo, hhi⟩ := exists_mem_Ico_zpow (abs_pos.2 hne) one_lt_two
  obtain ⟨j, hj⟩ := exists_chosen mode d.toRat (by positivity : (0 : ℚ) < 2 ^ (l - (fmt.fracBits : ℤ)))
  have hbinade : l < fmt.fracBits + 1 + d.exp := by
    have hnum' : |(d.num : ℚ)| < 2 ^ (fmt.fracBits + 1) := by exact_mod_cast hnum
    rw [← zpow_lt_zpow_iff_right₀ (one_lt_two (α := ℚ))]
    calc (2 : ℚ) ^ l ≤ |d.toRat| := hlo
      _ = |(d.num : ℚ)| * 2 ^ d.exp := by rw [Dyad.toRat, abs_mul, abs_of_pos (by positivity : (0 : ℚ) < 2 ^ d.exp)]
      _ < 2 ^ (fmt.fracBits + 1) * 2 ^ d.exp := mul_lt_mul_of_pos_right hnum' (by positivity)
      _ = 2 ^ ((fmt.fracBits : ℤ) + 1 + d.exp) := by rw [zpow_add₀ two_ne_zero]; norm_cast
  have hover : (d.over (max l fmt.emin - fmt.fracBits) : ℚ) * 2 ^ (max l fmt.emin - fmt.fracBits) = d.toRat :=
    d.over_mul (by omega)
  obtain ⟨-, hround⟩ := h l _ j hlo hhi (chosen_of_eq (by positivity) hover.symm) hj
  rw [hover] at hround
  obtain ⟨hfin, hsign, hvalue, hflags⟩ := hround hlt
  exact ⟨hfin, hsign, hvalue, hflags.trans (if_pos rfl)⟩

end

/-! ## Conversions without loss (R162, R163, R167) -/

section
variable {src dst : Fmt} (mode : Mode)

theorem isExact_fcvtFf {a : Bits src} (ha : isFinite a = true) (hx : dst.Has (ratOf a)) :
    IsExact (fcvtFf dst src mode a) (signOf a) (ratOf a) := by
  cases hz : isZero a with
  | true =>
    rw [fcvtFf_of_isZero mode dst hz, ratOf_eq_zero_iff.2 hz]
    exact isExact_zeroOf _
  | false =>
    rw [signOf_eq_decide hz]
    exact isExact_of_correctlyRounded (correctlyRounded_fcvtFf mode dst ha) hx
      (ratOf_eq_zero_iff.not.2 (Bool.eq_false_iff.1 hz))

/-- A result that is exact is the pattern of its sign and value. -/
theorem IsExact.eq_of_signOf_ratOf {r : Result dst} {v : Bits dst} (h : IsExact r (signOf v) (ratOf v)) :
    r = (v, 0#5) := by
  obtain ⟨-, hsign, hvalue, hflags⟩ := h
  exact Prod.ext (Machine.eq_of_signOf_ratOf hsign hvalue) hflags

/-- A conversion without loss, and the conversion back. -/
theorem fcvtFf_round_trip (mode' : Mode) {a : Bits src} (ha : isFinite a = true) (hx : dst.Has (ratOf a)) :
    fcvtFf src dst mode' (fcvtFf dst src mode a).1 = (a, 0#5) := by
  obtain ⟨hfin, hsign, hvalue, -⟩ := isExact_fcvtFf mode ha hx
  apply IsExact.eq_of_signOf_ratOf
  rw [← hsign, ← hvalue]
  refine isExact_fcvtFf mode' hfin ?_
  rw [hvalue]
  exact Fmt.has_ratOf ha

theorem isExact_fcvtFp {n : ℤ} (hx : dst.Has n) : IsExact (fcvtFp dst mode n) (decide (n < 0)) n := by
  by_cases hn : n = 0
  · subst hn
    rw [Int.cast_zero]
    exact isExact_zeroOf false
  · have hneg : decide (n < 0) = decide ((n : ℚ) < 0) := by simp
    rw [hneg]
    exact isExact_of_correctlyRounded (correctlyRounded_fcvtFp mode n) hx (by exact_mod_cast hn)

/-- The integers that a register holds lie in the range of the integer format (R161). -/
theorem IntFmt.lo_le_read (t : IntFmt) (v : BitVec t.width) : t.lo ≤ t.read v := by
  cases t with
  | w | l => exact BitVec.le_toInt v
  | wu | lu => exact Int.natCast_nonneg _

theorem IntFmt.read_le_hi (t : IntFmt) (v : BitVec t.width) : t.read v ≤ t.hi := by
  cases t with
  | w | l => exact Int.le_sub_one_of_lt BitVec.toInt_lt
  | wu | lu => exact Int.le_sub_one_of_lt (Int.ofNat_lt.2 v.isLt)

theorem IntFmt.abs_read_lt (t : IntFmt) (v : BitVec t.width) : |t.read v| < 2 ^ t.width := by
  have hlo := t.lo_le_read v
  have hhi := t.read_le_hi v
  have hlo' : -2 ^ t.width < t.lo := by cases t <;> decide
  have hhi' : t.hi < 2 ^ t.width := by cases t <;> decide
  exact abs_lt.2 ⟨hlo'.trans_le hlo, hhi.trans_lt hhi'⟩

/-- An integer converted without loss comes back. -/
theorem fcvtInt_of_ratOf_eq {a : Bits dst} {t : IntFmt} (v : BitVec t.width) (ha : isFinite a = true)
    (h : ratOf a = (t.read v : ℤ)) : fcvtInt dst t mode a = (t.read v, 0#5) := by
  have hk : Chosen mode (ratOf a) 1 (t.read v) := h ▸ chosen_intCast mode _
  rw [fcvtInt_of_isFinite ha hk, if_neg (t.lo_le_read v).not_gt, if_neg (t.read_le_hi v).not_gt, if_pos h.symm]

end

/-! ## BF16 is the top half of S (R167) -/

section
variable (v : Bits .bf16)

theorem signOf_append_zeros : signOf (fmt := .s) (v ++ 0#16) = signOf v := by
  simp [signOf, BitVec.msb_append]

theorem magOf_append_zeros : magOf (fmt := .s) (v ++ 0#16) = magOf v * 2 ^ 16 := by
  have htoNat : (v ++ 0#16 : BitVec 32).toNat = v.toNat * 2 ^ 16 := by
    simp [BitVec.toNat_append, Nat.shiftLeft_eq]
  change (v ++ 0#16 : BitVec 32).toNat % 2 ^ 31 = v.toNat % 2 ^ 15 * 2 ^ 16
  rw [htoNat]
  omega

theorem expOf_append_zeros : expOf (fmt := .s) (v ++ 0#16) = expOf v := by
  rw [expOf_eq_magOf_div, expOf_eq_magOf_div, magOf_append_zeros]
  change magOf v * 2 ^ 16 / 2 ^ 23 = magOf v / 2 ^ 7
  omega

theorem fracOf_append_zeros : fracOf (fmt := .s) (v ++ 0#16) = fracOf v * 2 ^ 16 := by
  rw [fracOf_eq_magOf_mod, fracOf_eq_magOf_mod, magOf_append_zeros]
  change magOf v * 2 ^ 16 % 2 ^ 23 = magOf v % 2 ^ 7 * 2 ^ 16
  omega

theorem ratOf_append_zeros : ratOf (fmt := .s) (v ++ 0#16) = ratOf v := by
  have hsig : sigOf (fmt := .s) (v ++ 0#16) = sigOf v * 2 ^ 16 := by
    rw [sigOf, sigOf, expOf_append_zeros, fracOf_append_zeros, ite_mul, add_mul]
    rfl
  have hunit : unitOf (fmt := .s) (v ++ 0#16) = unitOf v - 16 := by
    rw [unitOf, unitOf, expOf_append_zeros, sub_sub, sub_sub, sub_sub]
    rfl
  have habs : absOf (fmt := .s) (v ++ 0#16) = absOf v := by
    rw [absOf, absOf, hsig, hunit, zpow_sub₀ two_ne_zero]
    push_cast
    ring
  rw [ratOf_eq, ratOf_eq, signOf_append_zeros, habs]

theorem fcvtFf_bf16 (mode : Mode) (h : isNaN v = false) : fcvtFf .s .bf16 mode v = (v ++ 0#16, 0#5) := by
  cases hinf : isInf v with
  | true =>
    rw [fcvtFf_of_isInf mode .s hinf]
    refine Prod.ext (eq_of_signOf_magOf ?_ ?_) rfl
    · rw [signOf_infOf, signOf_append_zeros]
    · rw [magOf_infOf, magOf_append_zeros, (isInf_iff v).1 hinf]
      rfl
  | false =>
    have hfin := isFinite_of_not_isNaN_isInf h hinf
    have hhas : Fmt.s.Has (ratOf v) := (Fmt.has_ratOf hfin).mono (by decide) (by decide) (by decide)
    refine IsExact.eq_of_signOf_ratOf ?_
    rw [signOf_append_zeros, ratOf_append_zeros]
    exact isExact_fcvtFf mode hfin hhas

end

/-- Settles O58: the wider format has every number of the narrower one, and every integer of the format. -/
theorem exactConversions : Obligations.ExactConversions := by
  have hwider : ∀ p ∈ [(Fmt.s, Fmt.d), (Fmt.s, Fmt.q), (Fmt.d, Fmt.q), (Fmt.h, Fmt.s), (Fmt.h, Fmt.d), (Fmt.h, Fmt.q),
      (Fmt.bf16, Fmt.s)], p.1.fracBits ≤ p.2.fracBits ∧
        p.2.emin - p.2.fracBits ≤ p.1.emin - p.1.fracBits ∧ p.1.emax ≤ p.2.emax := by decide
  refine ⟨fun p hp mode mode' a ha => ?_, fun y fmt mode mode' v hy => ?_,
    fun v mode => ⟨fun _ => (ratOf_append_zeros v).symm, fcvtFf_bf16 v mode⟩⟩
  · obtain ⟨hbits, hunit, hmax⟩ := hwider p hp
    have hhas : p.2.Has (ratOf a) := (Fmt.has_ratOf ha).mono hbits hunit hmax
    obtain ⟨hfin, hsign, hvalue, hflags⟩ := isExact_fcvtFf mode ha hhas
    exact ⟨hfin, hvalue, hsign, hflags, fcvtFf_round_trip mode mode' ha hhas⟩
  · have hwidth : y.width ≤ fmt.fracBits + 1 := by
      obtain rfl | ⟨rfl, hw⟩ := hy
      · cases y <;> decide
      · rw [hw]
        decide
    have hhas : fmt.Has (y.read v) :=
      Fmt.has_intCast ((y.abs_read_lt v).trans_le (pow_le_pow_right₀ one_le_two hwidth))
    obtain ⟨hfin, -, hvalue, hflags⟩ := isExact_fcvtFp mode hhas
    exact ⟨hfin, hvalue, hflags, fcvtInt_of_ratOf_eq mode' v hfin hvalue⟩

/-! ## Rounding to an integral value (R164) -/

theorem roundToInt_eq_signed (mode : Mode) (x : Dyad) :
    roundToInt mode x = signed (decide (x.num < 0)) (x.cut.rounded mode (decide (x.num < 0))) := by
  simp [roundToInt, signed]

/-- Below a power of two no rounding goes beyond it. -/
theorem abs_roundToInt_le {x : Dyad} {n : ℕ} (h : |x.toRat| < 2 ^ n) (mode : Mode) : |roundToInt mode x| ≤ 2 ^ n := by
  have hreal : ((|x.toRat| : ℚ) : ℝ) < 2 ^ n := by exact_mod_cast h
  have hle := (Cut.at_cast.2 x.cut_at).rounded_le_two_pow hreal mode (decide (x.num < 0))
  have hq : |(roundToInt mode x : ℚ)| ≤ 2 ^ n := by
    rw [roundToInt_eq_signed, abs_signed]
    exact_mod_cast hle
  exact_mod_cast hq

section
variable {fmt : Fmt} {mode : Mode} {a : Bits fmt}

/-- A number with a unit below 1 is rounded below `2^m`, and any other is an integer already. -/
theorem Fmt.has_roundToInt (ha : isFinite a = true) (mode : Mode) : fmt.Has (roundToInt mode (valueOf a)) := by
  obtain hunit | hunit := le_or_gt 0 (unitOf a)
  · have hint : ratOf a = ((valueOf a).over 0 : ℤ) := by
      rw [ratOf, ← (valueOf a).over_mul hunit, zpow_zero, mul_one]
    have hk : roundToInt mode (valueOf a) = (valueOf a).over 0 := by
      refine chosen_unique (chosen_roundToInt mode (valueOf a)) ?_
      rw [← ratOf, hint]
      exact chosen_intCast mode _
    rw [hk, ← hint]
    exact has_ratOf ha
  · have hsig : (sigOf a : ℚ) < 2 ^ (fmt.fracBits + 1) := by exact_mod_cast sigOf_lt a
    have habs : |(valueOf a).toRat| < 2 ^ fmt.fracBits := by
      calc |(valueOf a).toRat| = sigOf a * (2 : ℚ) ^ unitOf a := abs_ratOf a
        _ ≤ sigOf a * (2 : ℚ) ^ (-1 : ℤ) := by
          gcongr
          · exact one_le_two
          · omega
        _ < 2 ^ (fmt.fracBits + 1) * (2 : ℚ) ^ (-1 : ℤ) := mul_lt_mul_of_pos_right hsig (by positivity)
        _ = 2 ^ fmt.fracBits := by rw [pow_succ, zpow_neg_one, mul_inv_cancel_right₀ two_ne_zero]
    exact has_intCast ((abs_roundToInt_le habs mode).trans_lt (pow_lt_pow_right₀ one_lt_two (Nat.lt_succ_self _)))

theorem valueOf_num_neg_iff (hz : isZero a = false) : decide ((valueOf a).num < 0) = signOf a := by
  rw [signOf_eq_decide hz, decide_eq_decide, ← Dyad.toRat_neg_iff]
  rfl

/-- The rounded integer has the sign of the number, or is zero. -/
theorem roundToInt_neg_iff (hz : isZero a = false) (hk : roundToInt mode (valueOf a) ≠ 0) :
    signOf a = decide (roundToInt mode (valueOf a) < 0) := by
  rw [roundToInt_eq_signed, valueOf_num_neg_iff hz] at hk ⊢
  revert hk
  generalize (valueOf a).cut.rounded mode (signOf a) = n
  cases signOf a with
  | false => simp [signed]
  | true => simp [signed]; omega

theorem isExact_encodeInt {neg : Bool} {k : ℤ} (hk : fmt.Has k) (hneg : k ≠ 0 → neg = decide (k < 0)) :
    IsExact (encodeInt fmt neg k, noFlags) neg k := by
  by_cases hzero : k = 0
  · rw [encodeInt, if_pos hzero, hzero, Int.cast_zero]
    exact isExact_zeroOf neg
  · have hencode : encodeInt fmt neg k = (fcvtFp fmt .rtz k).1 := by
      rw [encodeInt, if_neg hzero, fcvtFp, if_neg hzero, roundDyad, hneg hzero]
    obtain ⟨hfin, hsign, hvalue, -⟩ := isExact_fcvtFp .rtz hk
    rw [hencode, hneg hzero]
    exact ⟨hfin, hsign, hvalue, rfl⟩

theorem fround_of_isFinite (exact : Bool) (ha : isFinite a = true) (hz : isZero a = false) :
    fround fmt exact mode a = (encodeInt fmt (signOf a) (roundToInt mode (valueOf a)),
      if exact = true ∧ (roundToInt mode (valueOf a) : ℚ) ≠ ratOf a then 0b00001#5 else 0b00000#5) := by
  have hinexact := roundToInt_eq_iff mode (valueOf a)
  rw [← Bool.not_eq_true, ← not_iff_not, not_not] at hinexact
  simp only [fround, isNaN_of_isFinite ha, isInf_of_isFinite ha, hz, Bool.or_self, Bool.false_eq_true, if_false, ratOf,
    hinexact]
  cases exact <;> cases (valueOf a).cut.inexact <;> rfl

theorem fround_of_isInf_or_isZero (exact : Bool) (h : isInf a = true ∨ isZero a = true) :
    fround fmt exact mode a = (a, 0#5) := by
  obtain h | h := h
  · simp [fround, isNaN_of_isInf h, h, noFlags]
  · simp [fround, isNaN_of_isZero h, h, noFlags]

end

/-- Settles O59: the chosen integer is a number of the format, so that its encoding is exact. -/
theorem roundToIntegralIsCorrect : Obligations.RoundToIntegralIsCorrect := by
  intro fmt mode exact a k
  refine ⟨fun ha hk => ?_, fround_of_isInf_or_isZero exact, fun h => if_pos h⟩
  obtain rfl := chosen_unique (chosen_roundToInt mode (valueOf a)) hk
  cases hz : isZero a with
  | true =>
    have hvalue : ratOf a = 0 := ratOf_eq_zero_iff.2 hz
    have hk0 : roundToInt mode (valueOf a) = 0 := by
      refine chosen_unique hk ?_
      rw [hvalue]
      exact_mod_cast chosen_intCast mode 0
    rw [fround_of_isInf_or_isZero exact (.inr hz), hk0, hvalue]
    exact ⟨ha, hvalue.trans Int.cast_zero.symm, rfl, by simp⟩
  | false =>
    obtain ⟨hfin, hsign, hvalue, -⟩ :=
      isExact_encodeInt (neg := signOf a) (Fmt.has_roundToInt ha mode) (roundToInt_neg_iff hz)
    rw [fround_of_isFinite exact ha hz]
    exact ⟨hfin, hvalue, hsign, rfl⟩

end Sys2Proof.Machine
